-- ==== Sys2Proof/Word.lean ====
section
/-! DEFINITION. The word types of the Mardhex 416: the byte of the host link and the numbers of its tables. -/

namespace Sys2Proof

/-- A byte of the host link or of a branch: R1, R2; of a transfer: R93, R94. -/
abbrev Byte := BitVec 8

/-- A branch number, 0 to 3 (00, Capacities). -/
abbrev BranchId := Fin 4

/-- A route number, 0 to 31 (R38). -/
abbrev RouteId := Fin 32

/-- A watch number, 0 to 15 (R146). -/
abbrev WatchId := Fin 16

/-- A slot of the job pool, 0 to 23 (R58). -/
abbrev SlotId := Fin 24

end Sys2Proof
end

