-- ==== Sys2Proof/Syntax.lean ====
section
/-! DEFINITION. The commands of the block: one constructor for each row of spec/opcode_table.json, with
the operands the outside world supplies. A request command carries no frame: the dispatcher takes the
frame that waits at the head of the receive queue (R19, R20). -/

namespace Sys2Proof

/-- The link speed that LSPD selects (R1). -/
inductive LinkSpeed where
  /-- LSPD low: 115,200 bit/s. -/
  | baud115200
  /-- LSPD high: 921,600 bit/s. -/
  | baud921600
  deriving DecidableEq, Repr

/-- What makes a full reset (R15, R37). -/
inductive ResetCause where
  | powerOn
  | resetPin
  deriving DecidableEq, Repr

/-- What HRX delivers (R1): a character, whatever its stop bit, or a break. -/
inductive LineChar where
  | char (bits : Byte) (stopHigh : Bool)
  | lineBreak
  deriving DecidableEq, Repr

/-- One of the two lines of a branch: BnCK or BnDT. -/
inductive BusLine where
  | clock
  | data
  deriving DecidableEq, Repr

/-- The levels of a branch's two lines, as read (R87). -/
structure Lines where
  clockHigh : Bool
  dataHigh : Bool
  deriving DecidableEq, Repr

/-- What an engine finds as a stretch interval expires (R96): the level the data line shows once released, and, on the
acknowledge bit of a byte of READING, that byte, whose 8 bits are in (R94). -/
structure StretchEnd where
  dataHigh : Bool
  received : Option Byte
  deriving DecidableEq, Repr

/-- The commands, in the order of spec/opcode_table.json. -/
inductive Instr where
  /-- FULL_RESET (R37): its cause, the speed LSPD selects, and the levels the branch lines then show. -/
  | fullReset (cause : ResetCause) (lspd : LinkSpeed) (lines : Vector Lines 4)
  /-- BYTE_ARRIVES (R4). -/
  | byteArrives (c : LineChar)
  /-- GAP_INTERVAL_EXPIRES (R7). -/
  | gapIntervalExpires
  /-- TRANSMIT_START (R13). -/
  | transmitStart
  /-- FRAME_TRANSMITTED (R14). -/
  | frameTransmitted
  /-- RESTART_EFFECTS (R35). -/
  | restartEffects
  /-- REQUEST_OF_UNKNOWN_KIND (R21). -/
  | requestOfUnknownKind
  /-- HELLO (R27). -/
  | hello
  /-- OPEN (R28). -/
  | openSession
  /-- CLOSE (R29); `boundary` lists the branches whose engine stands at a byte boundary (R98). -/
  | closeSession (boundary : List BranchId)
  /-- CLOSE_PROCEDURE_COMPLETES (R33). -/
  | closeProcedureCompletes
  /-- RESTART (R34); `boundary` as for CLOSE. -/
  | restart (boundary : List BranchId)
  /-- STATUS (R36). -/
  | status
  /-- CREDIT (R168). -/
  | credit
  /-- ROUTE_SET (R46). -/
  | routeSet
  /-- ROUTE_GET (R49). -/
  | routeGet
  /-- ROUTE_CLEAR (R51). -/
  | routeClear
  /-- HOLD_RELEASE (R129). -/
  | holdRelease
  /-- PRESENCE_RESET (R142). -/
  | presenceReset
  /-- BRANCH_SET (R83). -/
  | branchSet
  /-- BRANCH_GET (R84). -/
  | branchGet
  /-- BRANCH_RESET (R118). -/
  | branchReset
  /-- XFER (R61). -/
  | xfer
  /-- BROADCAST (R63). -/
  | broadcast
  /-- CANCEL (R76); `atBoundary` says that the target's engine stands at a byte boundary (R98). -/
  | cancel (atBoundary : Bool)
  /-- WATCH_SET (R151). -/
  | watchSet
  /-- WATCH_GET (R153). -/
  | watchGet
  /-- WATCH_CLEAR (R152). -/
  | watchClear
  /-- JOB_DEADLINE_EXPIRES (R69) of the job in `slot`; `atBoundary` as for CANCEL. -/
  | jobDeadlineExpires (slot : SlotId) (atBoundary : Bool)
  /-- RETRY_WAIT_ENDS (R70) of the job in `slot`. -/
  | retryWaitEnds (slot : SlotId)
  /-- BUS_FREE_SET (R87). -/
  | busFreeSet (branch : BranchId)
  /-- STUCK_LINE_INTERVAL_EXPIRES (R89). -/
  | stuckLineIntervalExpires (branch : BranchId)
  /-- START_PHASE_DONE (R91). -/
  | startPhaseDone (branch : BranchId)
  /-- ADDRESS_PHASE_DONE (R92), with the acknowledge bit taken. -/
  | addressPhaseDone (branch : BranchId) (acknowledged : Bool)
  /-- WRITING_BYTE_DONE (R93), with the acknowledge bit taken. -/
  | writingByteDone (branch : BranchId) (acknowledged : Bool)
  /-- READING_BYTE_DONE (R94), with the byte received: its acknowledge bit is made. -/
  | readingByteDone (branch : BranchId) (received : Byte)
  /-- RESTART_PHASE_DONE (R91). -/
  | restartPhaseDone (branch : BranchId)
  /-- STOPPING_DONE (R95). -/
  | stoppingDone (branch : BranchId)
  /-- STRETCH_INTERVAL_EXPIRES (R96). -/
  | stretchIntervalExpires (branch : BranchId) (seen : StretchEnd)
  /-- CONTRADICTION (R97); `received` is the byte whose refusal bit is contradicted, in READING. -/
  | contradiction (branch : BranchId) (received : Byte)
  /-- RECOVERY_CLOCK_INTERVAL_EXPIRES (R109). -/
  | recoveryClockIntervalExpires (branch : BranchId)
  /-- RECOVERY_PULSE_DONE (R109), with the data line's level read after the pulse. -/
  | recoveryPulseDone (branch : BranchId) (dataHigh : Bool)
  /-- RECOVERY_STOP_DONE (R110), with the data line's level once released. -/
  | recoveryStopDone (branch : BranchId) (dataHigh : Bool)
  /-- WATCH_COUNTDOWN_EXPIRES (R154). -/
  | watchCountdownExpires (watch : WatchId)
  /-- WAITING_LATE_FAILURE_CARRIED_OUT (R127). -/
  | waitingLateFailureCarriedOut (route : RouteId)
  /-- BRANCH_LINE_LEVEL_CHANGE (R87): the line is seen to go to the level. -/
  | branchLineLevelChange (branch : BranchId) (line : BusLine) (high : Bool)
  deriving DecidableEq, Repr

end Sys2Proof
end

