-- ==== Sys2Proof/Decode.lean ====
section
/-! DEFINITION. The word a command is spelled by. spec/opcode_table.json gives no row any bits
("n_rows_with_fixed": 0, "n_rows_with_fields": 0 in spec/98_reader.md), so no word spells a command. -/

namespace Sys2Proof

/-- The command that the `nbits` bits of `w` spell by the table: the table gives none any bits. -/
def decodeTableWord (_nbits _w : Nat) : Option Instr := none

end Sys2Proof
end

