-- ==== Sys2Proof/Config.lean ====
section
/-! DEFINITION. The fixed quantities of silicon revision 0x03, each from the rule that gives it.
The spec leaves no value of an operation undefined, so there is no free value here. -/

namespace Sys2Proof.Config

/-- The START byte of every frame (R2). -/
def startByte : Byte := 0xC3

/-- LENGTH lies between these two (R2, R5). -/
def minLength : Nat := 2
def maxLength : Nat := 242

/-- The gap interval, in ms (R7). -/
def gapMs : Nat := 5

/-- Frames the receive queue holds (R10). -/
def rxQueueMax : Nat := 4

/-- The greatest sum of waiting and owed replies at which a frame is still taken (R19, condition 3). -/
def intakeLimit : Nat := 31

/-- Where a 16-bit counter stops (R11, R84). -/
def counterMax : Nat := 65535

/-- Where an 8-bit count stops (R33, R125, R127, R146, R162). -/
def countMax : Nat := 255

/-- Host jobs the pool holds at most (R58). -/
def hostShare : Nat := 20

/-- Slots of the job pool (R58). -/
def poolSlots : Nat := 24

/-- The greatest number of bytes written, and of bytes read, by one transfer (R27). -/
def maxData : Nat := 32

/-- The deadline of a broadcast, in ms (R56, R63). -/
def broadcastDeadline : Nat := 1000

/-- The arbitration loss at which a job ends ARB_LOST (R101, R102). -/
def arbLossLimit : Nat := 8

/-- The clock pulses of one recovery (R109). -/
def recoveryPulses : Nat := 9

/-- Where a presence streak stops (R136). -/
def streakMax : Nat := 8

/-- Notices the notice queue holds (R161). -/
def noticeQueueMax : Nat := 16

/-- The greatest number of credits (R167, R168). -/
def creditCap : Nat := 64

/-- The identity of the part (R15, R27). -/
def vendor : Nat := 0x4C42
def part : Nat := 0x0416
def revision : Nat := 0x03

end Sys2Proof.Config
end

