-- ==== Sys2Proof/Machine/State.lean ====
section
/-! DEFINITION. The state of the Mardhex 416: every piece of state the spec gives its eight blocks, as plain
data, the command queue, the reasons a step could stop, and the state right after full reset.
An optional part of a record that the spec ties to a flag ("present exactly while ...") is held once, as an
Option, and the flag is read from it: HELD (R38), POSTED (R56), CONFIGURED (R38, R146). -/

namespace Sys2Proof.Machine

/-! ### Statuses -/

/-- The statuses of R176. -/
inductive Status where
  | ok
  | posted
  | badKind
  | badForm
  | noSession
  | sessionOpen
  | tagInUse
  | busy
  | badRoute
  | routeHeld
  | routeInUse
  | duplicate
  | absent
  | notHeld
  | branchDown
  | branchBusy
  | watchBusy
  | notFound
  | cancelPending
  | tooLate
  | nackAddr
  | nackData
  | arbLost
  | arbLostData
  | busFault
  | stretchTimeout
  | cancelled
  | deadline
  deriving DecidableEq, Repr

/-! ### The link (01) -/

/-- A frame without START, LENGTH and CHECK (R2): a request in the receive queue (R10), a reply in the reply
queue (R12), or a frame to send. -/
structure Frame where
  kind : Byte
  tag : Byte
  payload : List Byte
  deriving DecidableEq, Repr

/-- The four assembly states of the receiver (section 1.3). -/
inductive Assembly where
  | hunt
  | length
  | body
  | check
  deriving DecidableEq, Repr

/-- The link receiver: its assembly state, the bytes it holds from the LENGTH byte on (the first of them is
the number of bytes expected, R5), and the gap interval, which runs from the ms time in `gap` (R7). -/
structure Receiver where
  assembly : Assembly
  held : List Byte
  gap : Option Nat
  deriving DecidableEq, Repr

/-- The receiver in HUNT with no bytes held and the gap interval not running (R16). -/
def Receiver.hunting : Receiver := ⟨.hunt, [], none⟩

/-- The four link counters (R11). -/
structure LinkCounters where
  crcErrors : Nat
  gapErrors : Nat
  overruns : Nat
  foreignFrames : Nat
  deriving DecidableEq, Repr

/-- All four at 0 (R16, R17, R36). -/
def LinkCounters.zero : LinkCounters := ⟨0, 0, 0, 0⟩

/-- A frame in transmission and the bytes it puts on HTX, fixed when its transmission starts (R14, R175). -/
structure Transmission where
  frame : Frame
  bytes : List Byte
  deriving DecidableEq, Repr

/-- What made the boot announcement pending (R15). -/
inductive BootOrigin where
  | fullReset
  | restartEffects
  deriving DecidableEq, Repr

/-! ### The session (02) -/

/-- The session states CLOSED, OPEN and CLOSING (R18). -/
inductive Session where
  | closed
  | opened
  | closing
  deriving DecidableEq, Repr

/-! ### The route table (03, 07, 08) -/

/-- The presence judgement (R38, R137). -/
inductive Presence where
  | unknown
  | present
  | suspect
  | absent
  deriving DecidableEq, Repr

/-- The configuration of a route (R38). -/
structure RouteConfig where
  branch : BranchId
  address : BitVec 7
  retries : Nat
  retryDelay : Nat
  deadline : Nat
  posting : Bool
  qualify : Nat
  drop : Nat
  notify : Bool
  deriving DecidableEq, Repr

/-- HOLD_RECORD (R38): the facts of the late failure that set the hold. -/
structure HoldRecord where
  failedPost : Nat
  failedStatus : Status
  discarded : Nat
  deriving DecidableEq, Repr

/-- A count of posted jobs with the first and the last of their post numbers (R125, R127). -/
structure Discards where
  count : Nat
  span : Option (Nat × Nat)
  deriving DecidableEq, Repr

/-- The posted job of a late failure (R124, R127, R128). -/
structure FailedPost where
  tag : Byte
  post : Nat
  status : Status
  ackedWrites : Nat
  deriving DecidableEq, Repr

/-- A waiting late failure: the failed job and the posted jobs merged into it (R127). -/
structure WaitingFailure where
  failed : FailedPost
  merged : Discards
  deriving DecidableEq, Repr

/-- A route record (R38) with its waiting late failure (R127). HELD is "`hold` is present". -/
structure Route where
  config : Option RouteConfig
  presence : Presence
  goodStreak : Nat
  badStreak : Nat
  hold : Option HoldRecord
  nextPost : Nat
  jobs : Nat
  waiting : Option WaitingFailure
  deriving DecidableEq, Repr

/-- A route after full reset (R41, R133). -/
def Route.reset : Route := ⟨none, .unknown, 0, 0, none, 1, 0, none⟩

/-! ### Jobs (04) -/

/-- The form of a transfer (R56). -/
inductive Op where
  | write
  | read
  | writeRead
  | broadcast
  deriving DecidableEq, Repr

/-- Where a job came from (R56): the host, with the request's TAG, or a watch. A poll has no TAG. -/
inductive Origin where
  | host (tag : Byte)
  | watch (w : WatchId)
  deriving DecidableEq, Repr

/-- Why a job is ending early (R56). -/
inductive EndCause where
  | cancel
  | deadline
  | close
  deriving DecidableEq, Repr

/-- The states of a job (R57), with READY_AT and END_CAUSE where they are present. -/
inductive JobState where
  | queued
  | retryWait (readyAt : Nat)
  | active
  | ending (cause : EndCause)
  deriving DecidableEq, Repr

/-- A job record (R56) in its slot (R58). POSTED is "`post` is present". -/
structure Job where
  slot : SlotId
  origin : Origin
  route : Option RouteId
  branch : BranchId
  op : Op
  writeData : List Byte
  readCount : Nat
  urgent : Bool
  post : Option Nat
  acceptedAt : Nat
  deadlineAt : Nat
  attempts : Nat
  arbLosses : Nat
  state : JobState
  ackedWrites : Nat
  readData : List Byte
  addressAcked : Bool
  cancelTag : Option Byte
  deriving DecidableEq, Repr

/-! ### Branches (05, 06) -/

/-- The branch speed (R81). -/
inductive BranchSpeed where
  | standard
  | fast
  deriving DecidableEq, Repr

/-- The configuration of a branch (R81). -/
structure BranchConfig where
  enabled : Bool
  speed : BranchSpeed
  stretchLimit : Nat
  multi : Bool
  deriving DecidableEq, Repr

/-- An interval of `limit` ms running since the ms time `since` (00, Time). -/
structure Interval where
  since : Nat
  limit : Nat
  deriving DecidableEq, Repr

/-- The stuck-line interval and the line it times (R89, R110). -/
structure Stuck where
  line : BusLine
  interval : Interval
  deriving DecidableEq, Repr

/-- Why the STOPPING phase was reached (R95, R99). A refusal of the first address carries the time of the
refusal (R106); an early stop at a byte boundary carries the END_CAUSE it stops for (R99). -/
inductive StopReason where
  | completed
  | dataRefused
  | repeatedRefused
  | firstRefused (at_ : Nat)
  | byteBoundary (cause : EndCause)
  deriving DecidableEq, Repr

/-- The phase of the transfer being conducted, with the index of the byte in progress (R90). -/
inductive Phase where
  | start
  | address (repeated : Bool)
  | writing (k : Nat)
  | reading (k : Nat)
  | restart
  | stopping (why : StopReason)
  deriving DecidableEq, Repr

/-- What an ACTIVE engine keeps: the job it conducts, by its slot, the phase, and the stretch interval of the
clock release it waits on (R85, R96). -/
structure Conduct where
  slot : SlotId
  phase : Phase
  stretch : Option Interval
  deriving DecidableEq, Repr

/-- The cause of a recovery (R108). -/
inductive RecoveryCause where
  | stretchTimeout
  | busFault
  | reset
  deriving DecidableEq, Repr

/-- The steps of a recovery (R109, R110). -/
inductive RecoveryStep where
  | release
  | pulsing
  | stop
  | idleWait
  deriving DecidableEq, Repr

/-- The recovery record (R108): the cause, the step, the pulses issued, the clock interval of RELEASE, PULSING
and STOP, and the stuck-line interval of IDLE_WAIT. -/
structure Recovery where
  cause : RecoveryCause
  step : RecoveryStep
  pulses : Nat
  clock : Option Interval
  stuck : Option Stuck
  deriving DecidableEq, Repr

/-- The six engine states (R85) with what the engine keeps in each. -/
inductive Engine where
  | off
  | idle
  | waitFree (stuck : Option Stuck)
  | active (conduct : Conduct)
  | recovering (recovery : Recovery)
  | isolated
  deriving DecidableEq, Repr

/-- A branch: configuration, engine and counters (R81, R84, R85), the line monitor (R87), and the branch queue,
head first (R64). -/
structure Branch where
  config : BranchConfig
  engine : Engine
  recoveries : Nat
  isolations : Nat
  arbLossTotal : Nat
  busFree : Bool
  lines : Lines
  queue : List Job
  deriving DecidableEq, Repr

/-- The branch configuration after full reset (R81). -/
def BranchConfig.reset : BranchConfig := ⟨true, .standard, 25, false⟩

/-- A branch after full reset (R81, R86, R87), with the levels its lines then show. -/
def Branch.reset (lines : Lines) : Branch :=
  ⟨BranchConfig.reset, .idle, 0, 0, 0, false, lines, []⟩

/-! ### The watch list (09) -/

/-- The configuration of a watch (R146). PREFIX is `lead`. -/
structure WatchConfig where
  enabled : Bool
  route : RouteId
  lead : List Byte
  length : Nat
  period : Nat
  riseMask : List Byte
  fallMask : List Byte
  reportFirst : Bool
  deriving DecidableEq, Repr

/-- A watch record (R146). -/
structure Watch where
  config : Option WatchConfig
  generation : Nat
  armed : Bool
  countdown : Nat
  lastValue : Option (List Byte)
  missed : Nat
  pollOut : Bool
  deriving DecidableEq, Repr

/-- A watch after full reset (R147). -/
def Watch.reset : Watch := ⟨none, 0, false, 0, none, 0, false⟩

/-! ### Notices (10) -/

/-- The body of a CHANGE notice (R159). -/
structure ChangeBody where
  watch : WatchId
  generation : Nat
  route : RouteId
  old : Option (List Byte)
  new : List Byte
  changed : List Byte
  merges : Nat
  missed : Nat
  deriving DecidableEq, Repr

/-- How a recovery ended (R119). -/
inductive BranchEvent where
  | recovered
  | isolated
  deriving DecidableEq, Repr

/-- The body of a notice, by its kind (R119, R128, R139, R159, R161). -/
inductive NoticeBody where
  | change (body : ChangeBody)
  | lateFault (route : RouteId) (failed : FailedPost) (discards : Discards)
  | presence (route : RouteId) (old new : Presence) (cause : Option Status)
  | branch (branch : BranchId) (event : BranchEvent) (cause : Status) (jobsFailed : Nat)
  deriving DecidableEq, Repr

/-- A notice in the notice queue (R161). -/
structure Notice where
  seq : Nat
  droppedBefore : Nat
  sealed : Bool
  body : NoticeBody
  deriving DecidableEq, Repr

/-! ### The machine -/

/-- The whole state. The job pool is the jobs of the four branch queues (R64). -/
structure State where
  /-- The part's time, in whole ms (00, Time). -/
  now : Nat
  linkSpeed : LinkSpeed
  receiver : Receiver
  rxQueue : List Frame
  counters : LinkCounters
  replies : List Frame
  transmitting : Option Transmission
  bootPending : Option BootOrigin
  powerOnFlag : Bool
  session : Session
  /-- The request being taken (R20): none between two steps. -/
  taking : Option Frame
  pendingClose : Option Byte
  pendingRestart : Option Byte
  pendingResets : Vector (Option Byte) 4
  /-- A CLOSE or RESTART is in progress (R19, condition 2). -/
  intakeStopped : Bool
  /-- The transmitter has reported the RESTART reply complete (R14, R35). -/
  restartSent : Bool
  cancelledJobs : Nat
  discardedPosts : Nat
  routes : Vector Route 32
  branches : Vector Branch 4
  watches : Vector Watch 16
  notices : List Notice
  credits : Nat
  nextSeq : Nat
  dropped : Nat
  /-- ATTN is driven low (R169). -/
  attnLow : Bool
  /-- The model's own: the commands waiting, first in, first out. -/
  pending : List Instr
  deriving DecidableEq, Repr

/-- The reasons a step could stop with a fault. There is none: no rule of the spec halts the part, and every
error it names is a status, a counter, a notice, a hold or an engine state. Safe: nothing stops a run. -/
inductive Fault : Type where
  deriving DecidableEq, Repr

/-- The reasons a step could be refused. -/
inductive Refusal where
  /-- Raised by `exec` alone, for a command that has no meaning yet; no arm of `exec` raises it. Safe: the
  machine stops where the part goes on. -/
  | notModelled (mnemonic : String)
  deriving DecidableEq, Repr

/-- Both lines of a branch high: released, and held by nobody. -/
def Lines.released : Lines := ⟨true, true⟩

/-- The machine right after full reset (R16, R37, R41, R58, R86, R147, R162). The reset it stands for is a
power-on with LSPD low and every branch line high, at ms time 0.
-- DESIGN CHOICE (log 5; unsafe): the spec leaves those four open. -/
def State.reset : State where
  now := 0
  linkSpeed := .baud115200
  receiver := Receiver.hunting
  rxQueue := []
  counters := LinkCounters.zero
  replies := []
  transmitting := none
  bootPending := some .fullReset
  powerOnFlag := true
  session := .closed
  taking := none
  pendingClose := none
  pendingRestart := none
  pendingResets := Vector.replicate 4 none
  intakeStopped := false
  restartSent := false
  cancelledJobs := 0
  discardedPosts := 0
  routes := Vector.replicate 32 Route.reset
  branches := Vector.replicate 4 (Branch.reset Lines.released)
  watches := Vector.replicate 16 Watch.reset
  notices := []
  credits := 0
  nextSeq := 1
  dropped := 0
  attnLow := false
  pending := []

end Sys2Proof.Machine
end

