-- ==== Sys2Proof/Machine/Ops.lean ====
section
/-! DEFINITION. The named operations over the tables, the reply queue, the branch queues and the job pool that
every meaning is built from. -/

namespace Sys2Proof.Machine

/-- What a command answers. -/
abbrev Answer := Host.Outcome State Fault Refusal

/-! ### Numbers -/

/-- A counter that stops at `limit` and does not wrap (00, Counters). -/
def bump (limit n : Nat) : Nat := min (n + 1) limit

/-- A number that runs from 1 to 65535 and then starts again at 1: SEQ and the post number (00, Counters). -/
def nextNumber (n : Nat) : Nat := if n < Config.counterMax then n + 1 else 1

/-- A watch's GENERATION runs from 0 to 255 and then starts again at 0 (00, Counters). -/
def nextGeneration (n : Nat) : Nat := if n < Config.countMax then n + 1 else 0

/-- An interval may expire at `now`: no earlier than its length after its start (00, Time; log 3). -/
def Interval.due (i : Interval) (now : Nat) : Bool := i.since + i.limit ≤ now

/-! ### Tables -/

/-- Every record of a table changed by `f`. -/
def mapTable {α β : Type} {n : Nat} (f : α → β) (v : Vector α n) : Vector β n :=
  ⟨⟨v.toArray.toList.map f⟩, by simp⟩

def State.route (s : State) (r : RouteId) : Route := s.routes[r]

def State.setRoute (s : State) (r : RouteId) (v : Route) : State := { s with routes := s.routes.set r v }

def State.branch (s : State) (b : BranchId) : Branch := s.branches[b]

def State.setBranch (s : State) (b : BranchId) (v : Branch) : State :=
  { s with branches := s.branches.set b v }

def State.watch (s : State) (w : WatchId) : Watch := s.watches[w]

def State.setWatch (s : State) (w : WatchId) (v : Watch) : State := { s with watches := s.watches.set w v }

def State.pendingReset (s : State) (b : BranchId) : Option Byte := s.pendingResets[b]

def State.setPendingReset (s : State) (b : BranchId) (t : Option Byte) : State :=
  { s with pendingResets := s.pendingResets.set b t }

/-- The engine of branch `b` enters a state. -/
def State.setEngine (s : State) (b : BranchId) (e : Engine) : State :=
  s.setBranch b { s.branch b with engine := e }

/-- The line monitor of branch `b` sees the lines at these levels; a low line clears BUS_FREE (R87). -/
def Branch.see (br : Branch) (lines : Lines) : Branch :=
  { br with lines := lines, busFree := br.busFree && lines.clockHigh && lines.dataHigh }

/-- The engine pulls the clock line low itself, which clears BUS_FREE at once (R87). -/
def Branch.pullsClock (br : Branch) : Branch :=
  { br with lines := { br.lines with clockHigh := false }, busFree := false }

/-- The engine pulls the data line low itself, which clears BUS_FREE at once (R87). -/
def Branch.pullsData (br : Branch) : Branch :=
  { br with lines := { br.lines with dataHigh := false }, busFree := false }

/-! ### ATTN -/

/-- ATTN follows the session, the notice queue and the credits (R169). -/
def State.driveAttn (s : State) : State :=
  { s with attnLow := s.session == .opened && !s.notices.isEmpty && s.credits == 0 }

/-! ### The reply queue -/

/-- A reply joins the tail of the reply queue (R12). -/
def State.pushReply (s : State) (reply : Frame) : State := { s with replies := s.replies ++ [reply] }

/-- The reply to a request: KIND plus 0x80, the request's TAG, and the payload (R20). -/
def Frame.replyWith (request : Frame) (payload : List Byte) : Frame :=
  ⟨request.kind + 0x80, request.tag, payload⟩

/-! ### Jobs -/

/-- A poll is a job whose ORIGIN is a watch (R56). -/
def Job.isPoll (j : Job) : Bool :=
  match j.origin with
  | .host _ => false
  | .watch _ => true

/-- A host job, owed or posted (R58). -/
def Job.isHost (j : Job) : Bool := !j.isPoll

/-- The TAG under which the job's reply is owed: ORIGIN is HOST and POSTED is no (R56). -/
def Job.owedTag (j : Job) : Option Byte :=
  match j.origin, j.post with
  | .host tag, none => some tag
  | _, _ => none

/-- ACTIVE or ENDING: the engine is conducting the job (R57). -/
def Job.onWires (j : Job) : Bool :=
  match j.state with
  | .active => true
  | .ending _ => true
  | .queued => false
  | .retryWait _ => false

/-- The job's progress cleared, as when it enters QUEUED or RETRY_WAIT from ACTIVE (R57). -/
def Job.withoutProgress (j : Job) : Job :=
  { j with ackedWrites := 0, readData := [], addressAcked := false }

/-! ### The job pool and the branch queues -/

/-- The jobs in the pool: branch 0 first, each queue from head to tail (R30, R64). -/
def State.jobs (s : State) : List Job := s.branches.toList.flatMap (·.queue)

/-- The job in a slot of the pool. -/
def State.findJob (s : State) (n : SlotId) : Option Job := s.jobs.find? (fun j => j.slot == n)

/-- The lowest free slot of the pool, if one is free (R58).
-- DESIGN CHOICE (log 11; safe): the spec says "a free slot". -/
def State.freeSlot (s : State) : Option SlotId :=
  (List.finRange Config.poolSlots).find? (fun n => !s.jobs.any (fun j => j.slot == n))

/-- The host jobs in the pool, owed or posted (R58). -/
def State.hostJobs (s : State) : Nat := s.jobs.countP Job.isHost

/-- The poll jobs in the pool (R36). -/
def State.pollJobs (s : State) : Nat := s.jobs.countP Job.isPoll

/-- The record of a job is changed in its place in its branch queue. -/
def State.updateJob (s : State) (j : Job) (f : Job → Job) : State :=
  s.setBranch j.branch
    { s.branch j.branch with
      queue := (s.branch j.branch).queue.map fun i => if i.slot = j.slot then f i else i }

/-- The job leaves its branch queue and the pool, and the jobs behind it close up (R64, R73 step 1). -/
def State.dropJob (s : State) (j : Job) : State :=
  s.setBranch j.branch
    { s.branch j.branch with queue := (s.branch j.branch).queue.filter fun i => i.slot ≠ j.slot }

/-- The route's JOBS is incremented as a job of it joins the pool (R52). -/
def State.jobJoins (s : State) (r : RouteId) : State :=
  s.setRoute r { s.route r with jobs := (s.route r).jobs + 1 }

/-- The route's JOBS is decremented as a job of it leaves the pool (R52). -/
def State.jobLeaves (s : State) (r : RouteId) : State :=
  s.setRoute r { s.route r with jobs := (s.route r).jobs - 1 }

/-- The route has a job ACTIVE or ENDING in the pool (R124, R127). -/
def State.routeOnWires (s : State) (r : RouteId) : Bool :=
  s.jobs.any fun j => decide (j.route = some r) && j.onWires

/-- The place of a job: after the last job of the queue that meets `p`, or at the head if none does. -/
def insertAfterLast (p : Job → Bool) (j : Job) : List Job → List Job
  | [] => [j]
  | i :: q => if p i || q.any p then i :: insertAfterLast p j q else j :: i :: q

/-- A job takes its place in a branch queue (R65): a normal job at the tail; an urgent one after the later of
the last urgent job and the last job of its own route or pseudo-route. -/
def placeJob (j : Job) (q : List Job) : List Job :=
  if j.urgent then insertAfterLast (fun i => i.urgent || decide (i.route = j.route)) j q else q ++ [j]

/-- The job joins the queue of its branch (R61, R63, R155). -/
def State.placeInQueue (s : State) (j : Job) : State :=
  s.setBranch j.branch { s.branch j.branch with queue := placeJob j (s.branch j.branch).queue }

/-- A poll has left the pool: the watch's POLL_OUT is cleared (R156). -/
def State.clearPollOut (s : State) (w : WatchId) : State :=
  s.setWatch w { s.watch w with pollOut := false }

/-- The job is removed without an end record (R75): it leaves its queue and the pool, its route's JOBS falls,
and a poll's watch has its POLL_OUT cleared. No reply, no presence outcome. -/
def State.removeJob (s : State) (j : Job) : State :=
  let s := s.dropJob j
  let s := match j.route with
    | none => s
    | some r => s.jobLeaves r
  match j.origin with
  | .host _ => s
  | .watch w => s.clearPollOut w

/-- A count of discarded posts rises by one, stopping at 255, with the post number noted as the last, and as
the first if it is the first (R125, R127). -/
def Discards.add (d : Discards) (post : Nat) : Discards :=
  ⟨bump Config.countMax d.count, match d.span with
    | none => some (post, post)
    | some (first, _) => some (first, post)⟩

/-- No post discarded. -/
def Discards.none : Discards := ⟨0, .none⟩

/-- The waiting failure's own job, counted ahead of the jobs merged into it (R127). -/
def WaitingFailure.asDiscards (w : WaitingFailure) : Discards :=
  ⟨bump Config.countMax w.merged.count, match w.merged.span with
    | .none => some (w.failed.post, w.failed.post)
    | some (_, last) => some (w.failed.post, last)⟩

/-- DISCARDED_POSTS rises by `n`, stopping at 255 (R30, R31, R33, R127). -/
def State.countDiscards (s : State) (n : Nat) : State :=
  { s with discardedPosts := min (s.discardedPosts + n) Config.countMax }

/-- CANCELLED_JOBS rises by one (R30, R31). -/
def State.countCancelled (s : State) : State := { s with cancelledJobs := s.cancelledJobs + 1 }

end Sys2Proof.Machine
end

