-- ==== Sys2Proof/Machine/Codes.lean ====
section
/-! DEFINITION. The codes of the message formats (R21's table of kinds, R172, R176) and the encoding of numbers. -/

namespace Sys2Proof.Machine

/-! ### Field encoding (R172) -/

/-- A one-byte number. -/
def byte (n : Nat) : Byte := BitVec.ofNat 8 n

/-- A two-byte number, most significant byte first. -/
def bytes16 (n : Nat) : List Byte := [BitVec.ofNat 8 (n / 256), BitVec.ofNat 8 n]

/-- The number that two bytes spell, most significant byte first. -/
def number16 (hi lo : Byte) : Nat := hi.toNat * 256 + lo.toNat

/-- A flag: 0 for no, 1 for yes. -/
def flagByte (b : Bool) : Byte := if b then 1 else 0

/-- An optional field: its presence byte, and its value when it is present. -/
def optionalField (v : Option (List Byte)) : List Byte :=
  match v with
  | none => [0]
  | some bs => 1 :: bs

/-- A list of bytes: its count and then its items. -/
def listField (bs : List Byte) : List Byte := byte bs.length :: bs

/-! ### Kinds (R20, 11.2) -/

/-- The twenty known request kinds. -/
inductive Kind where
  | hello
  | openSession
  | close
  | restart
  | status
  | credit
  | routeSet
  | routeGet
  | routeClear
  | holdRelease
  | presenceReset
  | branchSet
  | branchGet
  | branchReset
  | xfer
  | broadcast
  | cancel
  | watchSet
  | watchGet
  | watchClear
  deriving DecidableEq, Repr

/-- The KIND byte of each request (R20, R172). -/
def Kind.code : Kind → Byte
  | .hello => 0x01
  | .openSession => 0x02
  | .close => 0x03
  | .restart => 0x04
  | .status => 0x05
  | .credit => 0x06
  | .routeSet => 0x10
  | .routeGet => 0x11
  | .routeClear => 0x12
  | .holdRelease => 0x13
  | .presenceReset => 0x14
  | .branchSet => 0x18
  | .branchGet => 0x19
  | .branchReset => 0x1A
  | .xfer => 0x20
  | .broadcast => 0x21
  | .cancel => 0x22
  | .watchSet => 0x28
  | .watchGet => 0x29
  | .watchClear => 0x2A

/-- Every known kind. -/
def Kind.all : List Kind :=
  [.hello, .openSession, .close, .restart, .status, .credit, .routeSet, .routeGet, .routeClear, .holdRelease,
    .presenceReset, .branchSet, .branchGet, .branchReset, .xfer, .broadcast, .cancel, .watchSet, .watchGet,
    .watchClear]

/-- The KIND is one of the twenty known codes (R21). -/
def knownKind (k : Byte) : Bool := Kind.all.any fun x => x.code == k

/-- The kinds whose reply is owed or may be deferred, and whose TAG is checked against the owed tags (R25). -/
def Kind.deferrable : Kind → Bool
  | .close => true
  | .restart => true
  | .branchReset => true
  | .xfer => true
  | .broadcast => true
  | .cancel => true
  | .hello => false
  | .openSession => false
  | .status => false
  | .credit => false
  | .routeSet => false
  | .routeGet => false
  | .routeClear => false
  | .holdRelease => false
  | .presenceReset => false
  | .branchSet => false
  | .branchGet => false
  | .watchSet => false
  | .watchGet => false
  | .watchClear => false

/-- The KIND of the boot announcement (R15). -/
def bootKind : Byte := 0x7F

/-! ### Enumerations (R176) -/

def Status.code : Status → Byte
  | .ok => 0x00
  | .posted => 0x01
  | .badKind => 0x10
  | .badForm => 0x11
  | .noSession => 0x12
  | .sessionOpen => 0x13
  | .tagInUse => 0x14
  | .busy => 0x15
  | .badRoute => 0x20
  | .routeHeld => 0x21
  | .routeInUse => 0x22
  | .duplicate => 0x23
  | .absent => 0x24
  | .notHeld => 0x25
  | .branchDown => 0x28
  | .branchBusy => 0x29
  | .watchBusy => 0x2C
  | .notFound => 0x30
  | .cancelPending => 0x31
  | .tooLate => 0x32
  | .nackAddr => 0x40
  | .nackData => 0x41
  | .arbLost => 0x42
  | .arbLostData => 0x43
  | .busFault => 0x44
  | .stretchTimeout => 0x45
  | .cancelled => 0x46
  | .deadline => 0x47

def BranchSpeed.code : BranchSpeed → Byte
  | .standard => 0
  | .fast => 1

def linkSpeedCode : LinkSpeed → Byte
  | .baud115200 => 0
  | .baud921600 => 1

/-- SESSION is 1 in OPEN; a STATUS reply is never made in CLOSING (R176). -/
def Session.code (x : Session) : Byte := flagByte (x == .opened)

def Presence.code : Presence → Byte
  | .unknown => 0
  | .present => 1
  | .suspect => 2
  | .absent => 3

def Engine.code : Engine → Byte
  | .off => 0
  | .idle => 1
  | .waitFree _ => 2
  | .active _ => 3
  | .recovering _ => 4
  | .isolated => 5

def BranchEvent.code : BranchEvent → Byte
  | .recovered => 0
  | .isolated => 1

/-- The status with which a job stopped for a cause ends: CANCELLED for CANCEL and CLOSE, DEADLINE for DEADLINE
(R71, R99, R102). -/
def EndCause.status : EndCause → Status
  | .cancel => .cancelled
  | .close => .cancelled
  | .deadline => .deadline

/-- The CAUSE of a BRANCH notice for the recorded cause of a recovery: BUS_FAULT for a BRANCH_RESET (R119). -/
def RecoveryCause.status : RecoveryCause → Status
  | .stretchTimeout => .stretchTimeout
  | .busFault => .busFault
  | .reset => .busFault

end Sys2Proof.Machine
end

