-- ==== Sys2Proof/Machine/Flags.lean ====
section
/-! DEFINITION. The facts the blocks read from the state: owed replies (R24), the intake conditions (R19), which
branches are in service (R60), which watches refer to a route (R47), the test of the close procedure (R32). -/

namespace Sys2Proof.Machine

/-- The tags of every owed reply (R24): jobs' own replies and deferred CANCEL replies, in the pool's order, then
the pending CLOSE, RESTART and BRANCH_RESET records. -/
def State.owedTags (s : State) : List Byte :=
  s.jobs.flatMap (fun j => j.owedTag.toList ++ j.cancelTag.toList) ++ s.pendingClose.toList ++
    s.pendingRestart.toList ++ s.pendingResets.toList.flatMap Option.toList

/-- The dispatcher takes the head frame when no request is being taken (R20), the session is not CLOSING (R18),
no CLOSE or RESTART is in progress, and waiting plus owed replies are 31 or less (R19). -/
def State.intakeOpen (s : State) : Bool :=
  s.taking.isNone && s.session != .closing && !s.intakeStopped &&
    decide (s.replies.length + s.owedTags.length ≤ Config.intakeLimit)

/-- The branch is OFF or ISOLATED: no work is taken for it (R60, R62, R154). -/
def Branch.down (br : Branch) : Bool :=
  match br.engine with
  | .off => true
  | .isolated => true
  | .idle => false
  | .waitFree _ => false
  | .active _ => false
  | .recovering _ => false

/-- CONFIGURED (R38). -/
def Route.configured (rt : Route) : Bool := rt.config.isSome

/-- HELD (R38). -/
def Route.held (rt : Route) : Bool := rt.hold.isSome

/-- The watch is configured and its ROUTE field names the route (R47). -/
def Watch.refersTo (x : Watch) (r : RouteId) : Bool :=
  match x.config with
  | none => false
  | some c => c.route == r

/-- The number of watches referring to a route (R46, R49). -/
def State.watchesOf (s : State) (r : RouteId) : Nat := s.watches.toList.countP (·.refersTo r)

/-- The four link counters, as STATUS reports them (R36). -/
def LinkCounters.bytes (c : LinkCounters) : List Byte :=
  bytes16 c.crcErrors ++ bytes16 c.gapErrors ++ bytes16 c.overruns ++ bytes16 c.foreignFrames

/-- The 32 HELD flags as one number: route n is bit n (R36, R174). -/
def State.heldFlags (s : State) : Nat :=
  ((List.finRange 32).map fun r => if (s.route r).held then 2 ^ r.val else 0).sum

/-- The test of the close procedure: the pool is empty and no reply is owed but the procedure's own (R32). With
an empty pool, only BRANCH_RESET replies can be owed besides it. -/
def State.closeSettled (s : State) : Bool := s.jobs.isEmpty && s.pendingResets.toList.all (·.isNone)

/-- An engine in state OFF, IDLE or ISOLATED: BRANCH_SET may be accepted (R82). -/
def Engine.settled : Engine → Bool
  | .off => true
  | .idle => true
  | .isolated => true
  | .waitFree _ => false
  | .active _ => false
  | .recovering _ => false

/-- The engine state after an accepted BRANCH_SET (R83). -/
def Engine.afterBranchSet (e : Engine) (enabled : Bool) : Engine :=
  if enabled then
    match e with
    | .off => .idle
    | .idle => .idle
    | .isolated => .isolated
    | .waitFree x => .waitFree x
    | .active c => .active c
    | .recovering r => .recovering r
  else .off

/-- Two configurations name one device: the same BRANCH and the same ADDRESS (R45). -/
def RouteConfig.sameDevice (c d : RouteConfig) : Bool := c.branch == d.branch && c.address == d.address

/-- Another configured route than `r` has the branch and address of `c` (R45). -/
def State.duplicate (s : State) (r : RouteId) (c : RouteConfig) : Bool :=
  (List.finRange 32).any fun q => q != r && (match (s.route q).config with
    | none => false
    | some d => d.sameDevice c)

/-- The KIND and payload of the reply the accepted RESTART makes, told from a refused RESTART's reply, which has
the same KIND, by its status OK (R14, R34, R174). -/
def Frame.isRestartReply (f : Frame) : Bool :=
  f.kind == Kind.restart.code + 0x80 && f.payload == [Status.code .ok]

end Sys2Proof.Machine
end

