-- ==== Sys2Proof/Machine/Framing.lean ====
section
/-! DEFINITION. The frame on the line: its CRC (R3), its bytes (R2, R14), and the assembly of received bytes into
frames with the rescan after a CRC mismatch (R4 to R9). -/

namespace Sys2Proof.Machine

/-! ### CRC (R3) -/

/-- One bit of the CRC register, most significant bit first, polynomial x^16 + x^12 + x^5 + 1. -/
def crcBit (c : BitVec 16) : BitVec 16 := if c.msb then (c <<< 1) ^^^ 0x1021 else c <<< 1

/-- `n` bits. -/
def crcBits : Nat → BitVec 16 → BitVec 16
  | 0, c => c
  | n + 1, c => crcBits n (crcBit c)

/-- One byte fed in, most significant bit first. -/
def crcByte (c : BitVec 16) (b : Byte) : BitVec 16 := crcBits 8 (c ^^^ (b.setWidth 16 <<< 8))

/-- The CRC of a run of bytes, from 0xFFFF, with no final exclusive-or. -/
def crc (bs : List Byte) : BitVec 16 := bs.foldl crcByte 0xFFFF

/-- The two CHECK bytes, high byte first. -/
def checkBytes (bs : List Byte) : List Byte := bytes16 (crc bs).toNat

/-! ### Sending (R2, R14) -/

/-- LENGTH, KIND, TAG and PAYLOAD of a frame, in the order they are sent. -/
def Frame.content (f : Frame) : List Byte := byte (f.payload.length + 2) :: f.kind :: f.tag :: f.payload

/-- The bytes a frame puts on the line. -/
def Frame.wire (f : Frame) : List Byte := Config.startByte :: f.content ++ checkBytes f.content

/-! ### Receiving (R4 to R9) -/

/-- What the bytes held since a start byte amount to. -/
inductive Assembled where
  /-- The LENGTH byte cannot begin a valid frame (R5). -/
  | badLength
  /-- The frame is not complete: the assembly state it is in (R5, R6). -/
  | unfinished (state : Assembly)
  /-- The check bytes do not match (R8). -/
  | mismatch
  /-- A good frame (R9), of this many bytes after its start byte. -/
  | good (f : Frame) (size : Nat)
  deriving DecidableEq, Repr

/-- The bytes after a start byte, from the LENGTH byte on, read as a frame (R5, R6). -/
def assemble : List Byte → Assembled
  | [] => .unfinished .length
  | n :: rest =>
    if n.toNat < Config.minLength ∨ Config.maxLength < n.toNat then .badLength
    else if rest.length < n.toNat then .unfinished .body
    else if rest.length < n.toNat + 2 then .unfinished .check
    else if (rest.drop n.toNat).take 2 = checkBytes (n :: rest.take n.toNat) then
      match rest.take n.toNat with
      | kind :: tag :: payload => .good ⟨kind, tag, payload⟩ (n.toNat + 3)
      | _ => .badLength
    else .mismatch

/-- A good frame is foreign, an overrun, or joins the receive queue (R9). -/
def State.disposeFrame (s : State) (f : Frame) : State :=
  if 0x40 ≤ f.kind.toNat then
    { s with counters := { s.counters with foreignFrames := bump Config.counterMax s.counters.foreignFrames } }
  else if Config.rxQueueMax ≤ s.rxQueue.length then
    { s with counters := { s.counters with overruns := bump Config.counterMax s.counters.overruns } }
  else { s with rxQueue := s.rxQueue ++ [f] }

/-- CRC_ERRORS counts a frame whose check bytes do not match (R8, R11). -/
def State.countCrcError (s : State) : State :=
  { s with counters := { s.counters with crcErrors := bump Config.counterMax s.counters.crcErrors } }

/-- GAP_ERRORS counts an abandoned frame (R7, R11). -/
def State.countGapError (s : State) : State :=
  { s with counters := { s.counters with gapErrors := bump Config.counterMax s.counters.gapErrors } }

/-- The receiver is left partway through a frame, with the gap interval counted from the byte just received
from the line (R4 to R7). -/
def State.holdFrame (s : State) (state : Assembly) (held : List Byte) : State :=
  { s with receiver := ⟨state, held, some s.now⟩ }

/-- The receiver returns to HUNT. -/
def State.hunt (s : State) : State := { s with receiver := Receiver.hunting }

/-- Bytes are examined in order from HUNT (R4, R8); the first `skip` of them belong to a good frame already
judged. A frame found among them that fails is counted and rescanned from the byte after its own start byte. -/
def State.examine (s : State) : (skip : Nat) → List Byte → State
  | _, [] => s.hunt
  | skip + 1, _ :: bs => s.examine skip bs
  | 0, b :: bs =>
    if b = Config.startByte then
      match assemble bs with
      | .badLength => s.examine 0 bs
      | .unfinished state => s.holdFrame state bs
      | .mismatch => s.countCrcError.examine 0 bs
      | .good f size => (s.disposeFrame f).examine size bs
    else s.examine 0 bs

/-- More than 6 ms have passed since the last byte of the frame in progress: the gap interval has expired, whatever the
moment between 5 and 6 ms at which it did (R7; log 3). -/
def Receiver.overdue (r : Receiver) (now : Nat) : Bool :=
  match r.gap with
  | none => false
  | some since => since + Config.gapMs + 1 < now

/-- The frame in progress is abandoned and counted (R7). -/
def State.abandonFrame (s : State) : State := s.countGapError.hunt

/-- The receiver takes one byte from the line, its gap interval not having expired (R4 to R6, R8, R9). -/
def State.takeByte (s : State) (b : Byte) : State :=
  match s.receiver.assembly with
  | .hunt => if b = Config.startByte then s.holdFrame .length [] else s
  | .length | .body | .check =>
    let held := s.receiver.held ++ [b]
    match assemble held with
    | .badLength => s.hunt
    | .unfinished state => s.holdFrame state held
    | .mismatch => s.countCrcError.examine 0 held
    | .good f _ => (s.disposeFrame f).hunt

/-- A byte arrives from the line (R4 to R9). After a silence of more than 6 ms within a frame the frame is abandoned
first, and the byte is then examined in HUNT (R7). -/
def State.receive (s : State) (b : Byte) : State :=
  (if s.receiver.overdue s.now then s.abandonFrame else s).takeByte b

/-- The byte that HRX delivers (R1): the 8 data bits whatever the stop bit, and 0x00 for a break. -/
def delivered : LineChar → Byte
  | .char bits _ => bits
  | .lineBreak => 0x00

end Sys2Proof.Machine
end

