-- ==== Sys2Proof/Machine/Formats.lean ====
section
/-! DEFINITION. The payloads the part builds: replies (R174), notices and the boot announcement (R175). -/

namespace Sys2Proof.Machine

/-! ### Replies (R174) -/

/-- HELLO (R27). -/
def helloPayload (s : State) : List Byte :=
  [Status.code .ok] ++ bytes16 Config.vendor ++ bytes16 Config.part ++
    [byte Config.revision, byte 32, byte 16, byte Config.poolSlots, byte Config.hostShare,
      byte Config.noticeQueueMax, byte Config.creditCap, byte 4, byte Config.maxData, linkSpeedCode s.linkSpeed]

/-- BRANCH_STATE and BRANCH_QUEUE of one branch (R36). -/
def branchStatus (br : Branch) : List Byte := [br.engine.code, byte br.queue.length]

/-- STATUS (R36), from the values held at the take. -/
def statusPayload (s : State) : List Byte :=
  [Status.code .ok, s.session.code, byte s.credits, byte s.notices.length, byte s.dropped, byte s.replies.length,
      byte s.owedTags.length, byte s.hostJobs, byte s.pollJobs] ++
    bytes16 (s.heldFlags / 65536) ++ bytes16 (s.heldFlags % 65536) ++
    s.branches.toList.flatMap branchStatus ++ s.counters.bytes

/-- The ten bytes of a ROUTE_SET payload after ROUTE (R173, R174). -/
def RouteConfig.bytes (c : RouteConfig) : List Byte :=
  [byte c.branch.val, c.address.setWidth 8, byte c.retries, byte c.retryDelay] ++ bytes16 c.deadline ++
    [flagByte c.posting, byte c.qualify, byte c.drop, flagByte c.notify]

/-- FAILED_POST, FAILED_STATUS and DISCARDED (R174). -/
def HoldRecord.bytes (h : HoldRecord) : List Byte :=
  bytes16 h.failedPost ++ [h.failedStatus.code, byte h.discarded]

/-- ROUTE_GET (R49). -/
def routeGetPayload (s : State) (r : RouteId) : List Byte :=
  let rt := s.route r
  [Status.code .ok, byte r.val] ++ optionalField (rt.config.map RouteConfig.bytes) ++
    [rt.presence.code, byte rt.goodStreak, byte rt.badStreak, flagByte rt.held] ++
    optionalField (rt.hold.map HoldRecord.bytes) ++ bytes16 rt.nextPost ++ [byte rt.jobs, byte (s.watchesOf r)]

/-- BRANCH_GET (R84). -/
def branchGetPayload (s : State) (b : BranchId) : List Byte :=
  let br := s.branch b
  [Status.code .ok, byte b.val, flagByte br.config.enabled, br.config.speed.code, byte br.config.stretchLimit,
      flagByte br.config.multi, br.engine.code, byte br.queue.length] ++
    bytes16 br.recoveries ++ bytes16 br.isolations ++ bytes16 br.arbLossTotal

/-- The fields of a WATCH_SET payload after WATCH (R173, R174).
-- DESIGN CHOICE (log 30; unsafe): in a reply too the masks are lists with their counts, as R174's fields and its length
9 + p + 2L have them; R172 says that masks in replies are runs without a count. -/
def WatchConfig.bytes (c : WatchConfig) : List Byte :=
  [byte c.route.val, flagByte c.enabled] ++ listField c.lead ++ [byte c.length] ++ bytes16 c.period ++
    listField c.riseMask ++ listField c.fallMask ++ [flagByte c.reportFirst]

/-- WATCH_GET (R153). -/
def watchGetPayload (s : State) (w : WatchId) : List Byte :=
  let x := s.watch w
  [Status.code .ok, byte w.val] ++ optionalField (x.config.map WatchConfig.bytes) ++
    [byte x.generation, flagByte x.armed] ++ bytes16 x.countdown ++ optionalField x.lastValue ++
    [byte x.missed, flagByte x.pollOut]

/-- The reply of an owed job that ends with a status (R74): an XFER's carries all five fields, a BROADCAST's
STATUS, ACKED_WRITES and ARB_LOSSES. -/
def Job.endPayload (j : Job) (st : Status) : List Byte :=
  match j.op with
  | .broadcast => [st.code, byte j.ackedWrites, byte j.arbLosses]
  | .write | .read | .writeRead =>
    [st.code, byte j.ackedWrites] ++ listField j.readData ++ [byte j.attempts, byte j.arbLosses]

/-- The KIND of the request a host job came from. -/
def Job.requestKind (j : Job) : Kind :=
  match j.op with
  | .broadcast => .broadcast
  | .write | .read | .writeRead => .xfer

/-- The reply frame of an owed job. -/
def Job.endReply (j : Job) (tag : Byte) (st : Status) : Frame :=
  ⟨j.requestKind.code + 0x80, tag, j.endPayload st⟩

/-- The deferred CANCEL reply on a job with this status: OK if it ended CANCELLED, TOO_LATE otherwise, with the
CANCEL's TARGET, which is the job's TAG (R73, R78). -/
def cancelReply (tag target : Byte) (st : Status) : Frame :=
  ⟨Kind.cancel.code + 0x80, tag, [Status.code (if st = .cancelled then .ok else .tooLate), target]⟩

/-- The BRANCH_RESET reply (R112, R113). -/
def branchResetReply (tag : Byte) (st : Status) (b : BranchId) : Frame :=
  ⟨Kind.branchReset.code + 0x80, tag, [st.code, byte b.val]⟩

/-- The CLOSE reply (R33). -/
def closeReply (tag : Byte) (cancelled discarded : Nat) : Frame :=
  ⟨Kind.close.code + 0x80, tag, [Status.code .ok, byte cancelled, byte discarded]⟩

/-- The RESTART reply (R34). -/
def restartReply (tag : Byte) : Frame := ⟨Kind.restart.code + 0x80, tag, [Status.code .ok]⟩

/-! ### Notices and the boot announcement (R175) -/

/-- The KIND of a notice (R161). -/
def NoticeBody.kind : NoticeBody → Byte
  | .change _ => 0x40
  | .lateFault _ _ _ => 0x41
  | .presence _ _ _ _ => 0x42
  | .branch _ _ _ _ => 0x43

/-- The body of a notice, after SEQ and DROPPED_BEFORE. -/
def NoticeBody.bytes : NoticeBody → List Byte
  | .change c =>
    [byte c.watch.val, byte c.generation, byte c.route.val, byte c.new.length] ++ optionalField c.old ++ c.new ++
      c.changed ++ [byte c.merges, byte c.missed]
  | .lateFault r f d =>
    [byte r.val, f.tag] ++ bytes16 f.post ++ [f.status.code, byte f.ackedWrites, byte d.count] ++
      optionalField (d.span.map fun p => bytes16 p.1) ++ optionalField (d.span.map fun p => bytes16 p.2)
  | .presence r old new cause =>
    [byte r.val, old.code, new.code] ++ optionalField (cause.map fun st => [st.code])
  | .branch b event cause failed => [byte b.val, event.code, cause.code, byte failed]

/-- The frame of a notice: TAG 0, and a payload of SEQ, DROPPED_BEFORE and the body. SEALED is not sent. -/
def Notice.frame (n : Notice) : Frame :=
  ⟨n.body.kind, 0, bytes16 n.seq ++ [byte n.droppedBefore] ++ n.body.bytes⟩

/-- The codes of the boot CAUSE (R176): POWER, PIN, RESTART. -/
def bootCause (origin : BootOrigin) (powerOnFlag : Bool) : Byte :=
  match origin with
  | .restartEffects => 2
  | .fullReset => if powerOnFlag then 0 else 1

/-- The boot announcement (R15). -/
def bootFrame (origin : BootOrigin) (powerOnFlag : Bool) (speed : LinkSpeed) : Frame :=
  ⟨bootKind, 0,
    [bootCause origin powerOnFlag] ++ bytes16 Config.part ++ [byte Config.revision, linkSpeedCode speed]⟩

/-- A frame whose transmission starts, with its bytes on HTX (R14). -/
def Frame.sent (f : Frame) : Transmission := ⟨f, f.wire⟩

end Sys2Proof.Machine
end

