-- ==== Sys2Proof/Machine/NoticeUnit.lean ====
section
/-! DEFINITION. The notice unit: offers, merging, sealing and credits (10). -/

namespace Sys2Proof.Machine

/-- An unsent, unsealed CHANGE notice of the watch (R164). -/
def Notice.openChangeOf (w : WatchId) (n : Notice) : Bool :=
  match n.body with
  | .change c => !n.sealed && c.watch == w
  | .lateFault _ _ _ => false
  | .presence _ _ _ _ => false
  | .branch _ _ _ _ => false

/-- The notice joins the tail of the queue with the next SEQ and the drops since the last (R164, step 3). -/
def State.enqueueNotice (s : State) (body : NoticeBody) : State :=
  State.driveAttn { s with
    notices := s.notices ++ [⟨s.nextSeq, s.dropped, false, body⟩]
    nextSeq := nextNumber s.nextSeq
    dropped := 0 }

/-- The offer is dropped (R164, step 2). -/
def State.dropNotice (s : State) : State := { s with dropped := bump Config.countMax s.dropped }

/-- An offer of a notice that takes no merge (R163, R164): discarded outside OPEN, dropped when the queue holds 16
notices, and otherwise enqueued. -/
def State.offer (s : State) (body : NoticeBody) : State :=
  if s.session = .opened then
    if Config.noticeQueueMax ≤ s.notices.length then s.dropNotice else s.enqueueNotice body
  else s

/-- The bitwise OR of two masks of one width (R159). -/
def orMask (a b : List Byte) : List Byte := List.zipWith (· ||| ·) a b

/-- A new change folded into a waiting CHANGE of the same watch (R159, R165): NEW replaced, CHANGED ORed, MERGES
and MISSED raised. -/
def ChangeBody.merge (c new : ChangeBody) : ChangeBody :=
  { c with
    new := new.new
    changed := orMask c.changed new.changed
    merges := bump Config.countMax c.merges
    missed := min (c.missed + new.missed) Config.countMax }

/-- The waiting unsealed CHANGE of the watch takes the merge, in its place (R165). -/
def Notice.mergeChange (new : ChangeBody) (n : Notice) : Notice :=
  match n.body with
  | .change c => if n.openChangeOf new.watch then { n with body := .change (c.merge new) } else n
  | .lateFault _ _ _ => n
  | .presence _ _ _ _ => n
  | .branch _ _ _ _ => n

/-- The watch's missed count has been handed on in a CHANGE notice (R159). -/
def State.clearMissed (s : State) (w : WatchId) : State := s.setWatch w { s.watch w with missed := 0 }

/-- A CHANGE is offered (R159, R163, R164): discarded outside OPEN; merged into the watch's waiting unsealed CHANGE;
dropped when the queue holds 16 notices, the watch's MISSED being kept; and otherwise enqueued. -/
def State.offerChange (s : State) (c : ChangeBody) : State :=
  if s.session = .opened then
    if s.notices.any (Notice.openChangeOf c.watch) then
      State.clearMissed { s with notices := s.notices.map (Notice.mergeChange c) } c.watch
    else if Config.noticeQueueMax ≤ s.notices.length then s.dropNotice
    else (s.enqueueNotice (.change c)).clearMissed c.watch
  else s

/-- The notice is sealed if it is a CHANGE of a watch that `p` names (R166). -/
def Notice.seal (p : WatchId → Bool) (n : Notice) : Notice :=
  match n.body with
  | .change c => if p c.watch then { n with sealed := true } else n
  | .lateFault _ _ _ => n
  | .presence _ _ _ _ => n
  | .branch _ _ _ _ => n

/-- The waiting CHANGE notices of the watches that `p` names are sealed (R47, R151, R152, R166). -/
def State.sealChanges (s : State) (p : WatchId → Bool) : State :=
  { s with notices := s.notices.map (Notice.seal p) }

/-- The session takes a state, and ATTN follows (R169). -/
def State.enterSession (s : State) (x : Session) : State := State.driveAttn { s with session := x }

/-- The credits take a value, and ATTN follows (R169). -/
def State.setCredits (s : State) (n : Nat) : State := State.driveAttn { s with credits := n }

/-- The head notice leaves the queue as its transmission starts, and one credit is consumed (R167). -/
def State.startNotice (s : State) (n : Notice) (rest : List Notice) : State :=
  State.driveAttn { s with
    notices := rest
    credits := s.credits - 1
    transmitting := some n.frame.sent }

/-- The queue is emptied, and the credits and the dropped count become 0 (R33, R170). -/
def State.emptyNotices (s : State) : State := State.driveAttn { s with notices := [], credits := 0, dropped := 0 }

end Sys2Proof.Machine
end

