-- ==== Sys2Proof/Machine/Presence.lean ====
section
/-! DEFINITION. Presence qualification (08): the classes of outcome, the streaks, the transitions and the PRESENCE
notices. -/

namespace Sys2Proof.Machine

/-- The class of a presence outcome (R135). -/
inductive Evidence where
  | good
  | bad
  | neutral
  deriving DecidableEq, Repr

/-- The class of an end record (R135). A status that no job ends with gives no evidence, as do the combinations
the table marks as not arising where the status alone does not decide (log 17). -/
def classify (st : Status) (addressAcked : Bool) : Evidence :=
  match st with
  | .ok => .good
  | .nackData => .good
  | .arbLostData => .good
  | .cancelled => if addressAcked then .good else .neutral
  | .deadline => if addressAcked then .good else .neutral
  | .nackAddr => .bad
  | .stretchTimeout => .bad
  | .arbLost => .neutral
  | .busFault => .neutral
  | .branchDown => .neutral
  | .routeHeld => .neutral
  | .posted => .neutral
  | .badKind => .neutral
  | .badForm => .neutral
  | .noSession => .neutral
  | .sessionOpen => .neutral
  | .tagInUse => .neutral
  | .busy => .neutral
  | .badRoute => .neutral
  | .routeInUse => .neutral
  | .duplicate => .neutral
  | .absent => .neutral
  | .notHeld => .neutral
  | .branchBusy => .neutral
  | .watchBusy => .neutral
  | .notFound => .neutral
  | .cancelPending => .neutral
  | .tooLate => .neutral

/-- The streaks move with the outcome (R136). -/
def Route.moveStreaks (rt : Route) (o : Evidence) : Route :=
  match o with
  | .good => { rt with goodStreak := bump Config.streakMax rt.goodStreak, badStreak := 0 }
  | .bad => { rt with goodStreak := 0, badStreak := bump Config.streakMax rt.badStreak }
  | .neutral => rt

/-- The rows of the presence table (R137), for a route whose streaks have moved. -/
def nextPresence (c : RouteConfig) (good bad : Nat) : Presence → Evidence → Option Presence
  | .unknown, .good => if good = c.qualify then some .present else none
  | .unknown, .bad => if bad = c.drop then some .absent else none
  | .present, .bad => some .suspect
  | .suspect, .good => if good = c.qualify then some .present else none
  | .suspect, .bad => if bad = c.drop then some .absent else none
  | .absent, .good => some .suspect
  | .present, .good => none
  | .absent, .bad => none
  | .unknown, .neutral => none
  | .present, .neutral => none
  | .suspect, .neutral => none
  | .absent, .neutral => none

/-- The changes one outcome makes, in order: a change into SUSPECT is tested again at once (R137, R138). -/
def presenceChanges (c : RouteConfig) (good bad : Nat) (p : Presence) (o : Evidence) : List Presence :=
  match nextPresence c good bad p o with
  | none => []
  | some .suspect => .suspect :: (nextPresence c good bad .suspect o).toList
  | some q => [q]

/-- NOTIFY is on for the route (R139). -/
def Route.notifies (rt : Route) : Bool :=
  match rt.config with
  | none => false
  | some c => c.notify

/-- One change of PRESENCE, with its PRESENCE notice if NOTIFY is on (R139). -/
def State.changePresence (s : State) (r : RouteId) (cause : Option Status) (new : Presence) : State :=
  let rt := s.route r
  let s := s.setRoute r { rt with presence := new }
  if rt.notifies then s.offer (.presence r rt.presence new cause) else s

/-- The end of a routed job gives its route one outcome (R134, R136 to R139). -/
def State.presenceOutcome (s : State) (r : RouteId) (st : Status) (addressAcked : Bool) : State :=
  let o := classify st addressAcked
  let rt := (s.route r).moveStreaks o
  let s := s.setRoute r rt
  match rt.config with
  | none => s
  | some c =>
    (presenceChanges c rt.goodStreak rt.badStreak rt.presence o).foldl
      (fun s p => s.changePresence r (some st) p) s

end Sys2Proof.Machine
end

