-- ==== Sys2Proof/Machine/JobEnd.lean ====
section
/-! DEFINITION. The end of a job and its deliveries (R72 to R75, R54), the value of a poll (R157 to R159), and late
failures with their hold, purge and notice (R123 to R128). -/

namespace Sys2Proof.Machine

/-! ### The value of a poll (09) -/

/-- The changed mask of one byte: the bits that rose and are in RISE_MASK, and those that fell and are in FALL_MASK
(R158). -/
def changedByte (old new rise fall : Byte) : Byte := (~~~old &&& new &&& rise) ||| (old &&& ~~~new &&& fall)

/-- The changed mask of a whole value (R158). -/
def changedMask : (old new rise fall : List Byte) → List Byte
  | o :: os, n :: ns, r :: rs, f :: fs => changedByte o n r f :: changedMask os ns rs fs
  | _, _, _, _ => []

/-- The value of an OK poll is compared with LAST_VALUE and stored, and a change asked for is offered (R158). -/
def State.comparePoll (s : State) (w : WatchId) (c : WatchConfig) (value : List Byte) : State :=
  let x := s.watch w
  let s := s.setWatch w { x with lastValue := some value }
  match x.lastValue with
  | none =>
    if c.reportFirst then
      s.offerChange ⟨w, x.generation, c.route, none, value, List.replicate c.length 0, 1, x.missed⟩
    else s
  | some old =>
    let mask := changedMask old value c.riseMask c.fallMask
    if mask.any (· != 0) then s.offerChange ⟨w, x.generation, c.route, some old, value, mask, 1, x.missed⟩
    else s

/-- The watch scheduler takes the end of a poll (R157): POLL_OUT is cleared; in OPEN an OK poll's value is compared;
any other end keeps the value, and in CLOSING the poll ends silently. -/
def State.pollEnds (s : State) (w : WatchId) (st : Status) (value : List Byte) : State :=
  let s := s.clearPollOut w
  match (s.watch w).config with
  | none => s
  | some c => if s.session = .opened ∧ st = .ok then s.comparePoll w c value else s

/-! ### Deliveries of a job end -/

/-- The first deliveries of a job end (R73 steps 1 to 3, R54 steps 1 and 2): the job leaves its queue and the pool;
an owed job's reply joins the reply queue, and a deferred CANCEL reply just after it; its route's JOBS falls and its
presence takes the outcome. -/
def State.deliver (s : State) (j : Job) (st : Status) : State :=
  let s := s.dropJob j
  let s := match j.owedTag with
    | none => s
    | some tag => s.pushReply (j.endReply tag st)
  let s := match j.cancelTag, j.origin with
    | some tag, .host target => s.pushReply (cancelReply tag target st)
    | _, _ => s
  match j.route with
  | none => s
  | some r => (s.jobLeaves r).presenceOutcome r st j.addressAcked

/-! ### Late failure, hold and purge (07) -/

/-- One job of a held route is taken out of the pool (R125): a posted job is discarded, an owed XFER ends
ROUTE_HELD, a poll is forgotten. -/
def purgeOne (acc : State × Discards) (j : Job) : State × Discards :=
  match j.origin, j.post with
  | .host _, some post => (acc.1.removeJob j, acc.2.add post)
  | .host _, none => (acc.1.deliver j.withoutProgress .routeHeld, acc.2)
  | .watch _, _ => (acc.1.removeJob j, acc.2)

/-- The purge of a route (R125), through its branch queue from head to tail, the discards starting from `d`. -/
def State.purge (s : State) (r : RouteId) (d : Discards) : State × Discards :=
  (s.jobs.filter fun j => decide (j.route = some r)).foldl purgeOne (s, d)

/-- A late failure is carried out (R124): the hold is set, the route's other jobs are purged, and a LATE_FAULT
notice is offered. `d` counts the posted jobs merged before the purge (R127). -/
def State.carryOut (s : State) (r : RouteId) (f : FailedPost) (d : Discards) : State :=
  let s := s.setRoute r { s.route r with hold := some ⟨f.post, f.status, 0⟩, waiting := none }
  let p := s.purge r d
  let s := p.1.setRoute r { p.1.route r with hold := some ⟨f.post, f.status, p.2.count⟩ }
  s.offer (.lateFault r f p.2)

/-- The failure of a posted job outside CLOSING (R124, R127). While another job of the route is on the wires it waits,
or is merged into the failure that waits already. Otherwise it is carried out, and a failure that waited is
counted among the hold's discards ahead of the purge's. -/
def State.lateFailure (s : State) (r : RouteId) (f : FailedPost) : State :=
  let rt := s.route r
  if s.routeOnWires r then
    s.setRoute r { rt with waiting := some (match rt.waiting with
      | none => ⟨f, Discards.none⟩
      | some w => ⟨w.failed, w.merged.add f.post⟩) }
  else
    s.carryOut r f (match rt.waiting with
      | none => Discards.none
      | some w => w.asDiscards)

/-- A waiting late failure is carried out once its route has no job on the wires (R127); during CLOSING it is
counted in DISCARDED_POSTS, with every job merged into it, and sets no hold. -/
def State.settleWaiting (s : State) (r : RouteId) : State :=
  match (s.route r).waiting with
  | none => s
  | some w =>
    if s.routeOnWires r then s
    else if s.session = .opened then s.carryOut r w.failed w.merged
    else (s.setRoute r { s.route r with waiting := none }).countDiscards (1 + w.merged.count)

/-- The route of a job that has left ACTIVE or ENDING settles its waiting late failure (R127). -/
def State.settleRouteOf (s : State) (j : Job) : State :=
  match j.route with
  | none => s
  | some r => s.settleWaiting r

/-- A posted job has ended (R54 step 3, R123): OK needs nothing more; any other end is a late failure in OPEN, and
is discarded and counted in CLOSING. -/
def State.postedEnds (s : State) (j : Job) (st : Status) : State :=
  match j.origin, j.post, j.route with
  | .host tag, some post, some r =>
    if st = .ok then s
    else if s.session = .opened then s.lateFailure r ⟨tag, post, st, j.ackedWrites⟩
    else s.countDiscards 1
  | _, _, _ => s

/-- CANCELLED_JOBS counts an owed job that ends CANCELLED in CLOSING with cause CLOSE (R31). -/
def State.countCloseEnd (s : State) (j : Job) (st : Status) : State :=
  if s.session = .closing ∧ j.owedTag.isSome ∧ j.state = .ending .close ∧ st = .cancelled then s.countCancelled
  else s

/-- The end of a job up to the route table's part (R73, steps 1 to 4): the deliveries, and the late failure of a posted
job. -/
def State.endDelivered (s : State) (j : Job) (st : Status) : State :=
  ((s.countCloseEnd j st).deliver j st).postedEnds j st

/-- The watch scheduler takes the end of a poll (R73, step 5). -/
def State.watchTakes (s : State) (j : Job) (st : Status) : State :=
  match j.origin with
  | .host _ => s
  | .watch w => s.pollEnds w st j.readData

/-- The end of a job that waits in its queue, as one step (R73, steps 1 to 5). The engine's selection of step 6 is the
caller's. -/
def State.endJob (s : State) (j : Job) (st : Status) : State := (s.endDelivered j st).watchTakes j st

/-- The end of the job the engine was conducting, as one step (R73, steps 1 to 5). The route's waiting late failure, if
any, is settled by the route table in step 4 (R127), so the value of a poll is taken after any late failure (R157).
-- DEDUCED (log 10): R127 says "after the job's own delivery", which R73 and R157 limit to its steps 1 to 4. -/
def State.endOnWires (s : State) (j : Job) (st : Status) : State :=
  ((s.endDelivered j st).settleRouteOf j).watchTakes j st

end Sys2Proof.Machine
end

