-- ==== Sys2Proof/Machine/Engine.lean ====
section
/-! DEFINITION. The branch engine: selection and start (R66, R67, R88), waiting for a free bus (R89), entering and
ending a recovery (R108 to R113), the isolation drain (R114 to R116), and a job becoming ENDING (R71, R98). -/

namespace Sys2Proof.Machine

/-! ### Stuck-line intervals (R89, R110) -/

/-- The stuck-line interval as it stands on entry to WAIT_FREE or IDLE_WAIT (R89): it times the clock line if that
is low, and otherwise the data line if that is low. -/
def stuckOnEntry (now limit : Nat) (lines : Lines) : Option Stuck :=
  if lines.clockHigh then
    if lines.dataHigh then none else some ⟨.data, ⟨now, limit⟩⟩
  else some ⟨.clock, ⟨now, limit⟩⟩

/-- The stuck-line interval after a line is seen to change, the lines then being `lines` (R89): a change of the clock
line, or of the data line while the clock is high, starts or stops it; a change of the data line under a low
clock leaves the clock interval running. -/
def stuckOnChange (now limit : Nat) (line : BusLine) (lines : Lines) (running : Option Stuck) : Option Stuck :=
  match line with
  | .clock => stuckOnEntry now limit lines
  | .data => if lines.clockHigh then stuckOnEntry now limit lines else running

/-- The engine enters WAIT_FREE with its lines as they stand (R88, R89, R101, R103). -/
def State.enterWaitFree (s : State) (b : BranchId) : State :=
  let br := s.branch b
  s.setEngine b (.waitFree (stuckOnEntry s.now br.config.stretchLimit br.lines))

/-! ### Entering RECOVERING (R108, R109) -/

/-- The recovery once the clock line is seen high in RELEASE (R109): with the data line high no pulse is needed and
the STOP step begins; otherwise the first pulse is issued. Either pulls the clock line low, which clears BUS_FREE
(R87), and waits for it under a clock interval.
-- DESIGN CHOICE (log 32; safe): the interval is dated from that pull, half a bit period before the release. -/
def Branch.recoverUnderHighClock (br : Branch) (now : Nat) (cause : RecoveryCause) : Branch :=
  { br.pullsClock with
    engine := .recovering ⟨cause, if br.lines.dataHigh then .stop else .pulsing, 0,
      some ⟨now, br.config.stretchLimit⟩, none⟩ }

/-- The engine enters RECOVERING at the RELEASE step with pulse count 0 (R108), and goes on at once if it reads the
clock line high (R109; log 14). -/
def State.enterRecovery (s : State) (b : BranchId) (cause : RecoveryCause) : State :=
  let br := s.branch b
  if br.lines.clockHigh then s.setBranch b (br.recoverUnderHighClock s.now cause)
  else s.setEngine b (.recovering ⟨cause, .release, 0, some ⟨s.now, br.config.stretchLimit⟩, none⟩)

/-! ### Selection and start (R66, R67, R88) -/

/-- The first job of the queue that is QUEUED and has no job of its own route, or of the branch's pseudo-route for a
broadcast, ahead of it (R66). `ahead` holds the routes of the jobs already passed. -/
def firstEligible (ahead : List (Option RouteId)) : List Job → Option Job
  | [] => none
  | j :: q =>
    if j.state = .queued ∧ j.route ∉ ahead then some j else firstEligible (j.route :: ahead) q

/-- The engine begins to conduct a job with its START phase: it pulls the data line low, which clears BUS_FREE at once
(R87, R88, R91). -/
def State.beginStart (s : State) (b : BranchId) (slot : SlotId) : State :=
  s.setBranch b { (s.branch b).pullsData with engine := .active ⟨slot, .start, none⟩ }

/-- The engine starts the selected job by what the line monitor shows (R88). -/
def State.startJob (s : State) (b : BranchId) (j : Job) : State :=
  let br := s.branch b
  if br.busFree then (s.updateJob j fun i => { i with state := .active }).beginStart b j.slot
  else if !br.config.multi && br.lines.clockHigh && !br.lines.dataHigh then s.enterRecovery b .busFault
  else s.enterWaitFree b

/-- An IDLE engine selects (R66, R67); an engine in any other state does not. -/
def State.selectIfIdle (s : State) (b : BranchId) : State :=
  match (s.branch b).engine with
  | .idle =>
    match firstEligible [] (s.branch b).queue with
    | none => s
    | some j => s.startJob b j
  | .off => s
  | .waitFree _ => s
  | .active _ => s
  | .recovering _ => s
  | .isolated => s

/-- The engine returns to IDLE and selects in doing so (R67). -/
def State.becomeIdle (s : State) (b : BranchId) : State := (s.setEngine b .idle).selectIfIdle b

/-! ### The end of a recovery -/

/-- A pending BRANCH_RESET of the branch is answered, and its record removed (R112, R113, R118). -/
def State.answerBranchReset (s : State) (b : BranchId) (st : Status) : State :=
  match s.pendingReset b with
  | none => s
  | some tag => (s.setPendingReset b none).pushReply (branchResetReply tag st b)

/-- A recovery ends in success (R112): RECOVERIES rises, the engine enters IDLE, a RECOVERED notice is offered unless
the cause is RESET, a pending BRANCH_RESET is answered OK, and the engine selects. -/
def State.recoverySucceeds (s : State) (b : BranchId) (cause : RecoveryCause) : State :=
  let br := s.branch b
  let s := s.setBranch b { br with recoveries := bump Config.counterMax br.recoveries, engine := .idle }
  let s := if cause = .reset then s else s.offer (.branch b .recovered cause.status 0)
  (s.answerBranchReset b .ok).selectIfIdle b

/-- The first pass of the drain takes one owed job or poll (R114); a posted job is left for the second. -/
def drainFirst (s : State) (j : Job) : State :=
  match j.origin, j.post with
  | .host _, some _ => s
  | .host _, none => s.endJob j.withoutProgress .branchDown
  | .watch _, _ => s.removeJob j

/-- The second pass of the drain takes one posted job, if the purge of its route has not taken it already (R115): it
ends BRANCH_DOWN, a late failure of its route. -/
def drainSecond (b : BranchId) (s : State) (j : Job) : State :=
  if (s.branch b).queue.any fun i => i.slot == j.slot then s.endJob j.withoutProgress .branchDown else s

/-- The isolation drain of a branch queue (R114, R115): the owed jobs and the polls from head to tail, and then the
posted jobs that remain, in queue order, the first of each route ending and the purge discarding the rest. -/
def State.drain (s : State) (b : BranchId) : State :=
  let s := (s.branch b).queue.foldl drainFirst s
  (s.branch b).queue.foldl (drainSecond b) s

/-- A recovery ends in failure (R113): the lines are released, ISOLATIONS rises, the engine enters ISOLATED and its
queue is drained; then a pending BRANCH_RESET is answered BUS_FAULT, and an ISOLATED notice is offered with the
number of host jobs the drain ended or discarded (R116, R119). -/
def State.recoveryFails (s : State) (b : BranchId) (cause : RecoveryCause) : State :=
  let br := s.branch b
  let failed := br.queue.countP Job.isHost
  let s := s.setBranch b { br with isolations := bump Config.counterMax br.isolations, engine := .isolated }
  ((s.drain b).answerBranchReset b .busFault).offer (.branch b .isolated cause.status failed)

/-! ### A job becoming ENDING (R71, R98) -/

/-- The phase of an engine whose job becomes ENDING. At a byte boundary, after an acknowledge bit and before the next
bit, the engine goes to STOPPING at once; a READ that has acknowledged a byte has promised another and goes on, and
so does an engine that is not at a boundary (R98; log 12). -/
def Phase.onEnding (p : Phase) (cause : EndCause) (atBoundary : Bool) : Phase :=
  match p with
  | .writing k => if atBoundary then .stopping (.byteBoundary cause) else .writing k
  | .restart => if atBoundary then .stopping (.byteBoundary cause) else .restart
  | .reading 0 => if atBoundary then .stopping (.byteBoundary cause) else .reading 0
  | .reading (k + 1) => .reading (k + 1)
  | .start => .start
  | .address repeated => .address repeated
  | .stopping why => .stopping why

/-- The engine carries its job on to the byte boundary when the job becomes ENDING (R98). -/
def Engine.onEnding (e : Engine) (slot : SlotId) (cause : EndCause) (atBoundary : Bool) : Engine :=
  match e with
  | .active c => if c.slot = slot then .active { c with phase := c.phase.onEnding cause atBoundary } else .active c
  | .off => .off
  | .idle => .idle
  | .waitFree x => .waitFree x
  | .recovering r => .recovering r
  | .isolated => .isolated

/-- An ACTIVE job becomes ENDING with an END_CAUSE (R31, R69, R78). -/
def State.makeEnding (s : State) (j : Job) (cause : EndCause) (atBoundary : Bool) : State :=
  let s := s.updateJob j fun i => { i with state := .ending cause }
  s.setEngine j.branch ((s.branch j.branch).engine.onEnding j.slot cause atBoundary)

end Sys2Proof.Machine
end

