-- ==== Sys2Proof/Machine/Operands.lean ====
section
/-! DEFINITION. The payload of every request kind (R173), read by the field encoding of R172 and the ranges of the
kind's chapter. Each reader answers none exactly where the payload check refuses the request with BAD_FORM (R23). -/

namespace Sys2Proof.Machine

/-! ### Fields (R172) -/

/-- A flag: 0 or 1. -/
def readFlag (b : Byte) : Option Bool :=
  if b = 0 then some false else if b = 1 then some true else none

/-- A number from `lo` to `hi`. -/
def readNumber (lo hi : Nat) (b : Byte) : Option Nat :=
  if lo ≤ b.toNat ∧ b.toNat ≤ hi then some b.toNat else none

/-- A number below `n`, naming a record of a table. -/
def readIndex (n : Nat) (b : Byte) : Option (Fin n) :=
  if h : b.toNat < n then some ⟨b.toNat, h⟩ else none

/-- A list of `lo` to `hi` bytes: the items, and the bytes after it. -/
def readList (lo hi : Nat) : List Byte → Option (List Byte × List Byte)
  | [] => none
  | n :: rest =>
    if lo ≤ n.toNat ∧ n.toNat ≤ hi ∧ n.toNat ≤ rest.length then
      some (rest.take n.toNat, rest.drop n.toNat)
    else none

/-- A branch SPEED (R176). -/
def readBranchSpeed (b : Byte) : Option BranchSpeed :=
  if b = 0 then some .standard else if b = 1 then some .fast else none

/-- The OP of an XFER: WRITE, READ or WRITE_READ; the code of BROADCAST is refused (R59, R173). -/
def readOp (b : Byte) : Option Op :=
  if b = 0 then some .write else if b = 1 then some .read else if b = 2 then some .writeRead else none

/-! ### The forms of the requests (R173) -/

/-- HELLO, CLOSE and RESTART have no payload. -/
def readEmpty : List Byte → Option Unit
  | [] => some ()
  | _ :: _ => none

/-- OPEN: CREDITS, 0 to 64 (R28). -/
def readOpen : List Byte → Option Nat
  | [c] => readNumber 0 Config.creditCap c
  | _ => none

/-- STATUS: CLEAR (R36). -/
def readStatus : List Byte → Option Bool
  | [c] => readFlag c
  | _ => none

/-- CREDIT: AMOUNT, 1 to 64 (R168). -/
def readCredit : List Byte → Option Nat
  | [a] => readNumber 1 Config.creditCap a
  | _ => none

/-- ROUTE_GET, ROUTE_CLEAR, HOLD_RELEASE and PRESENCE_RESET: ROUTE (R49, R50, R129, R141). -/
def readRoute : List Byte → Option RouteId
  | [r] => readIndex 32 r
  | _ => none

/-- BRANCH_GET and BRANCH_RESET: BRANCH (R84, R117). -/
def readBranch : List Byte → Option BranchId
  | [b] => readIndex 4 b
  | _ => none

/-- WATCH_GET and WATCH_CLEAR: WATCH (R152, R153). -/
def readWatch : List Byte → Option WatchId
  | [w] => readIndex 16 w
  | _ => none

/-- CANCEL: TARGET, 1 to 255 (R76). -/
def readCancel : List Byte → Option Byte
  | [t] => if t = 0 then none else some t
  | _ => none

/-- ROUTE_SET: ROUTE and the nine configuration fields (R43). -/
def readRouteSet : List Byte → Option (RouteId × RouteConfig)
  | [route, branch, address, retries, delay, deadlineHi, deadlineLo, posting, qualify, drop, notify] => do
    let route ← readIndex 32 route
    let branch ← readIndex 4 branch
    let addressNumber ← readNumber 0x08 0x77 address
    let retries ← readNumber 0 3 retries
    let delay ← readNumber 1 255 delay
    let deadline := number16 deadlineHi deadlineLo
    let posting ← readFlag posting
    let qualify ← readNumber 1 8 qualify
    let drop ← readNumber 1 8 drop
    let notify ← readFlag notify
    if 10 ≤ deadline ∧ deadline ≤ 60000 then
      some (route, ⟨branch, BitVec.ofNat 7 addressNumber, retries, delay, deadline, posting, qualify, drop, notify⟩)
    else none
  | _ => none

/-- BRANCH_SET: BRANCH and the four configuration fields (R82). -/
def readBranchSet : List Byte → Option (BranchId × BranchConfig)
  | [branch, enabled, speed, limit, multi] => do
    let branch ← readIndex 4 branch
    let enabled ← readFlag enabled
    let speed ← readBranchSpeed speed
    let limit ← readNumber 1 255 limit
    let multi ← readFlag multi
    some (branch, ⟨enabled, speed, limit, multi⟩)
  | _ => none

/-- The fields of an XFER (R59). -/
structure XferForm where
  route : RouteId
  op : Op
  urgent : Bool
  posted : Bool
  probe : Bool
  writeData : List Byte
  readCount : Nat
  deriving DecidableEq, Repr

/-- The fields form a legal transfer (R59). -/
def XferForm.legal (x : XferForm) : Bool :=
  (match x.op with
    | .write => x.readCount == 0
    | .read => x.writeData.isEmpty && decide (1 ≤ x.readCount)
    | .writeRead => !x.writeData.isEmpty && decide (1 ≤ x.readCount)
    | .broadcast => false) &&
  (!x.posted || (x.op == .write && !x.writeData.isEmpty && !x.urgent))

/-- XFER: ROUTE, OP, URGENT, POSTED, PROBE, WRITE_DATA, READ_COUNT (R59). -/
def readXfer : List Byte → Option XferForm
  | route :: op :: urgent :: posted :: probe :: rest => do
    let route ← readIndex 32 route
    let op ← readOp op
    let urgent ← readFlag urgent
    let posted ← readFlag posted
    let probe ← readFlag probe
    let (data, rest) ← readList 0 Config.maxData rest
    match rest with
    | [count] =>
      let count ← readNumber 0 Config.maxData count
      let form : XferForm := ⟨route, op, urgent, posted, probe, data, count⟩
      if form.legal then some form else none
    | _ => none
  | _ => none

/-- The fields of a BROADCAST (R62). -/
structure BroadcastForm where
  branch : BranchId
  urgent : Bool
  writeData : List Byte
  deriving DecidableEq, Repr

/-- BROADCAST: BRANCH, URGENT, WRITE_DATA of 1 to 32 bytes (R62). -/
def readBroadcast : List Byte → Option BroadcastForm
  | branch :: urgent :: rest => do
    let branch ← readIndex 4 branch
    let urgent ← readFlag urgent
    let (data, rest) ← readList 1 Config.maxData rest
    match rest with
    | [] => some ⟨branch, urgent, data⟩
    | _ :: _ => none
  | _ => none

/-- WATCH_SET: WATCH and the eight configuration fields (R149). -/
def readWatchSet : List Byte → Option (WatchId × WatchConfig)
  | watch :: route :: enabled :: rest => do
    let watch ← readIndex 16 watch
    let route ← readIndex 32 route
    let enabled ← readFlag enabled
    let (lead, rest) ← readList 0 2 rest
    match rest with
    | length :: periodHi :: periodLo :: rest =>
      let length ← readNumber 1 4 length
      let period := number16 periodHi periodLo
      let (rise, rest) ← readList length length rest
      let (fall, rest) ← readList length length rest
      match rest with
      | [first] =>
        let first ← readFlag first
        if 5 ≤ period ∧ period ≤ 60000 then
          some (watch, ⟨enabled, route, lead, length, period, rise, fall, first⟩)
        else none
      | _ => none
    | _ => none
  | _ => none

end Sys2Proof.Machine
end

