-- ==== Sys2Proof/Machine/Dispatcher.lean ====
section
/-! DEFINITION. Taking a request (R19 to R25): the intake, the general checks in their order, the refusal, and the
step of the dispatcher that every request command is. -/

namespace Sys2Proof.Machine

/-- The frame at the head of the receive queue, taken when the intake is open and its KIND is asked for (R19, R20). -/
def State.take (s : State) (wanted : Byte → Bool) : Option (Frame × State) :=
  match s.rxQueue with
  | [] => none
  | f :: rest => if s.intakeOpen && wanted f.kind then some (f, { s with rxQueue := rest, taking := some f }) else none

/-- The reply to the request being taken joins the reply queue (R20). -/
def State.answer (s : State) (f : Frame) (payload : List Byte) : State := s.pushReply (f.replyWith payload)

/-- The request is refused: its reply carries the status alone (R20, R174). -/
def State.refuse (s : State) (f : Frame) (st : Status) : State := s.answer f [st.code]

/-- The session a request kind is refused for (R22). The CLOSING state is not met here (R19). -/
def sessionRefusal (k : Kind) (x : Session) : Option Status :=
  match k with
  | .hello | .status | .restart => none
  | .openSession => if x = .opened then some .sessionOpen else none
  | .close | .credit | .routeSet | .routeGet | .routeClear | .holdRelease | .presenceReset | .branchSet
  | .branchGet | .branchReset | .xfer | .broadcast | .cancel | .watchSet | .watchGet | .watchClear =>
    if x = .opened then none else some .noSession

/-- The general checks after the KIND's, in their order (R20): TAG, session state, payload form, tag in use. -/
def State.check {α : Type} (s : State) (k : Kind) (form : List Byte → Option α) (f : Frame) : Except Status α :=
  if f.tag = 0 then .error .badForm
  else match sessionRefusal k s.session with
    | some st => .error st
    | none => match form f.payload with
      | none => .error .badForm
      | some a => if k.deferrable && s.owedTags.contains f.tag then .error .tagInUse else .ok a

/-- Once the dispatcher has acted, no request is being taken (R20). -/
def State.endTake (s : State) : State := { s with taking := none }

/-- The dispatcher takes a request of the kind, if one waits and may be taken: the general checks, and then the
kind's own checks and action. -/
def State.request {α : Type} (s : State) (k : Kind) (form : List Byte → Option α)
    (act : State → Frame → α → State) : State :=
  match s.take (· == k.code) with
  | none => s
  | some (f, t) =>
    match t.check k form f with
    | .error st => (t.refuse f st).endTake
    | .ok a => (act t f a).endTake

end Sys2Proof.Machine
end

