-- ==== Sys2Proof/Machine/Link.lean ====
section
/-! DEFINITION. The link's commands: FULL_RESET, BYTE_ARRIVES, GAP_INTERVAL_EXPIRES, TRANSMIT_START,
FRAME_TRANSMITTED and RESTART_EFFECTS (01, 02). -/

namespace Sys2Proof.Machine

/-- FULL_RESET (R16, R37, R41, R86, R147, R162): every block at its reset values, LSPD sampled, every line released
and showing `lines`, the boot announcement pending. Power-on sets the power-on flag; the RESET pin leaves it (R15).
The ms time starts again at 0 (log 24). -/
def execFullReset (cause : ResetCause) (lspd : LinkSpeed) (lines : Vector Lines 4) (s : State) : Answer :=
  .next { State.reset with
    linkSpeed := lspd
    powerOnFlag := cause == .powerOn || s.powerOnFlag
    branches := mapTable Branch.reset lines
    pending := s.pending }

/-- BYTE_ARRIVES (R1, R4 to R9). -/
def execByteArrives (c : LineChar) (s : State) : Answer := .next (s.receive (delivered c))

/-- GAP_INTERVAL_EXPIRES (R7): the frame in progress is abandoned, its bytes are not examined again, and GAP_ERRORS
counts it. The interval runs outside HUNT only, and a silence of 5 ms or less never abandons a frame (log 3). -/
def execGapIntervalExpires (s : State) : Answer :=
  match s.receiver.gap with
  | none => .next s
  | some since => .next (if since + Config.gapMs < s.now then s.abandonFrame else s)

/-- The head notice may be sent: the session is OPEN and a credit is held (R13, R167). -/
def State.maySendNotice (s : State) : Bool := s.session == .opened && decide (1 ≤ s.credits)

/-- The idle transmitter's choice (R13): the boot announcement, the head reply, or the head notice against credit.
The power-on flag is cleared as the POWER announcement starts (R15). -/
def State.choose (s : State) : State :=
  match s.bootPending with
  | some origin =>
    { s with
      bootPending := none
      powerOnFlag := if origin = .fullReset then false else s.powerOnFlag
      transmitting := some (bootFrame origin s.powerOnFlag s.linkSpeed).sent }
  | none =>
    match s.replies with
    | reply :: rest => { s with replies := rest, transmitting := some reply.sent }
    | [] =>
      match s.notices with
      | [] => s
      | n :: rest => if s.maySendNotice then s.startNotice n rest else s

/-- TRANSMIT_START (R13, R14): the transmitter chooses when no frame is in transmission. -/
def execTransmitStart (s : State) : Answer :=
  match s.transmitting with
  | none => .next s.choose
  | some _ => .next s

/-- FRAME_TRANSMITTED (R14): the transmitter is idle again; if the frame was the RESTART reply, it reports the
completion to the dispatcher. -/
def execFrameTransmitted (s : State) : Answer :=
  match s.transmitting with
  | none => .next s
  | some t => .next { s with transmitting := none, restartSent := s.restartSent || t.frame.isRestartReply }

/-- A route under the restart effects (R42): its configuration is kept and its judgement starts from nothing. JOBS is
0 already, the pool being empty. -/
def Route.restarted (rt : Route) : Route :=
  { rt with presence := .unknown, goodStreak := 0, badStreak := 0, hold := none, nextPost := 1, waiting := none }

/-- A branch under the restart effects (R86): its configuration is kept; the engine is IDLE if ENABLED and OFF if not,
a recovery being abandoned with its lines released and a wait ended; the counters are 0.
-- DESIGN CHOICE (log 31; safe): the levels shown stay as they were, a line that the recovery itself had pulled low among
them; what the released lines then show comes as BRANCH_LINE_LEVEL_CHANGE. -/
def Branch.restarted (br : Branch) : Branch :=
  { br with
    engine := if br.config.enabled then .idle else .off
    recoveries := 0
    isolations := 0
    arbLossTotal := 0 }

/-- A watch under the restart effects (R147). -/
def Watch.restarted (x : Watch) : Watch :=
  { x with armed := false, countdown := 0, lastValue := none, missed := 0, pollOut := false }

/-- The restart effects on every block (R17, R35, R42, R86, R147, R162, R170). The reply queue is empty at this moment
without being cleared (R17; log 20). -/
def State.applyRestart (s : State) : State :=
  let s := { s with
    receiver := Receiver.hunting
    rxQueue := []
    counters := LinkCounters.zero
    bootPending := some .restartEffects
    taking := none
    pendingClose := none
    pendingRestart := none
    pendingResets := Vector.replicate 4 none
    intakeStopped := false
    restartSent := false
    cancelledJobs := 0
    discardedPosts := 0
    routes := mapTable Route.restarted s.routes
    branches := mapTable Branch.restarted s.branches
    watches := mapTable Watch.restarted s.watches }
  (List.finRange 4).foldl State.selectIfIdle (s.emptyNotices.enterSession .closed)

/-- RESTART_EFFECTS (R35): applied once the transmitter has reported the RESTART reply completely transmitted. -/
def execRestartEffects (s : State) : Answer := if s.restartSent then .next s.applyRestart else .next s

end Sys2Proof.Machine
end

