-- ==== Sys2Proof/Machine/Session.lean ====
section
/-! DEFINITION. The session's commands (02): a request of unknown kind, HELLO, OPEN, CLOSE, the completion of the close
procedure, RESTART, STATUS, and CREDIT (10). -/

namespace Sys2Proof.Machine

/-- REQUEST_OF_UNKNOWN_KIND (R21): refused with BAD_KIND, its TAG carried whatever it is. -/
def execRequestOfUnknownKind (s : State) : Answer :=
  match s.take (fun k => !knownKind k) with
  | none => .next s
  | some (f, t) => .next (t.refuse f .badKind).endTake

/-- HELLO (R27). -/
def execHello (s : State) : Answer := .next (s.request .hello readEmpty fun t f _ => t.answer f (helloPayload t))

/-! ### OPEN -/

/-- A watch at the take of OPEN (R28, R147, R148): armed if configured with ENABLED yes, with LAST_VALUE absent. -/
def Watch.opened (x : Watch) : Watch :=
  match x.config with
  | none => { x with armed := false, countdown := 0, lastValue := none }
  | some c => { x with armed := c.enabled, countdown := if c.enabled then c.period else 0, lastValue := none }

/-- OPEN is taken (R28, R171). -/
def State.open_ (s : State) (credits : Nat) : State :=
  let s := { s with nextSeq := 1, dropped := 0, watches := mapTable Watch.opened s.watches }
  (s.setCredits credits).enterSession .opened

/-- OPEN (R28). -/
def execOpenSession (s : State) : Answer :=
  .next (s.request .openSession readOpen fun t f credits =>
    (t.open_ credits).answer f [Status.code .ok, byte credits])

/-! ### CLOSE -/

/-- A watch disarmed at the take of CLOSE (R30, R147). -/
def Watch.disarmed (x : Watch) : Watch := { x with armed := false, countdown := 0 }

/-- A job waiting in its queue is removed at the take of CLOSE (R30): a poll silently, an owed job ending CANCELLED
and counted, a posted job discarded and counted. -/
def closeRemoves (s : State) (j : Job) : State :=
  match j.origin, j.post with
  | .host _, some _ => (s.removeJob j).countDiscards 1
  | .host _, none => (s.deliver j.withoutProgress .cancelled).countCancelled
  | .watch _, _ => s.removeJob j

/-- The begin of the close procedure (R29 to R31): the session becomes CLOSING, the counts are 0, the watches are
disarmed, waiting jobs are removed, and ACTIVE jobs become ENDING with cause CLOSE. -/
def State.beginClose (s : State) (boundary : List BranchId) : State :=
  let s := { s with cancelledJobs := 0, discardedPosts := 0, watches := mapTable Watch.disarmed s.watches }
  let s := s.enterSession .closing
  let s := (s.jobs.filter fun j => !j.onWires).foldl closeRemoves s
  (s.jobs.filter fun j => decide (j.state = .active)).foldl
    (fun s j => s.makeEnding j .close (boundary.contains j.branch)) s

/-- A route at the completion of the close procedure (R33, R42): its hold is cleared. -/
def Route.unheld (rt : Route) : Route := { rt with hold := none }

/-- A watch at the completion of the close procedure (R33, R147): LAST_VALUE is made absent. -/
def Watch.forgotten (x : Watch) : Watch := { x with lastValue := none }

/-- The close procedure completes (R33): notices, credits and holds are cleared, LAST_VALUE is made absent, the CLOSE
reply is queued and intake resumes; or, for a RESTART, the RESTART reply is queued and intake stays stopped (R34).
The session becomes CLOSED. -/
def State.completeClose (s : State) : State :=
  let s := { s with
    routes := mapTable Route.unheld s.routes
    watches := mapTable Watch.forgotten s.watches }
  let s := s.emptyNotices
  let s := match s.pendingClose with
    | none => s
    | some tag =>
      State.pushReply { s with pendingClose := none, intakeStopped := false }
        (closeReply tag s.cancelledJobs s.discardedPosts)
  let s := match s.pendingRestart with
    | none => s
    | some tag => State.pushReply { s with pendingRestart := none } (restartReply tag)
  s.enterSession .closed

/-- The test of R32, and the completion when it passes. -/
def State.testClose (s : State) : State := if s.closeSettled then s.completeClose else s

/-- CLOSE is taken (R29 to R32): if the pool is then empty and nothing else is owed, it completes in the same step. -/
def State.close (s : State) (tag : Byte) (boundary : List BranchId) : State :=
  (State.beginClose { s with pendingClose := some tag, intakeStopped := true } boundary).testClose

/-- CLOSE (R29). -/
def execCloseSession (boundary : List BranchId) (s : State) : Answer :=
  .next (s.request .close readEmpty fun t f _ => t.close f.tag boundary)

/-- CLOSE_PROCEDURE_COMPLETES (R32, R33): in CLOSING, when the test of R32 passes (log 7). -/
def execCloseProcedureCompletes (s : State) : Answer :=
  .next (if s.session = .closing then s.testClose else s)

/-! ### RESTART -/

/-- RESTART is taken (R34): in OPEN the close procedure runs for it; in CLOSED its reply is queued at once. Intake stops
until the restart effects. -/
def State.restartTaken (s : State) (tag : Byte) (boundary : List BranchId) : State :=
  let s := { s with pendingRestart := some tag, intakeStopped := true }
  if s.session = .opened then (s.beginClose boundary).testClose
  else State.pushReply { s with pendingRestart := none } (restartReply tag)

/-- RESTART (R34). -/
def execRestart (boundary : List BranchId) (s : State) : Answer :=
  .next (s.request .restart readEmpty fun t f _ => t.restartTaken f.tag boundary)

/-! ### STATUS and CREDIT -/

/-- STATUS (R36, R11): the values held at the take; with CLEAR 1 the link counters are then set to 0. -/
def execStatus (s : State) : Answer :=
  .next (s.request .status readStatus fun t f clear =>
    State.answer { t with counters := if clear then LinkCounters.zero else t.counters } f (statusPayload t))

/-- CREDIT (R168): the credits rise, stopping at 64, and are reported. -/
def execCredit (s : State) : Answer :=
  .next (s.request .credit readCredit fun t f amount =>
    let credits := min (t.credits + amount) Config.creditCap
    (t.setCredits credits).answer f [Status.code .ok, byte credits])

end Sys2Proof.Machine
end

