-- ==== Sys2Proof/Machine/RouteTable.lean ====
section
/-! DEFINITION. The route commands: ROUTE_SET, ROUTE_GET, ROUTE_CLEAR (03), HOLD_RELEASE (07), PRESENCE_RESET (08),
and the waiting late failure carried out (07). -/

namespace Sys2Proof.Machine

/-! ### ROUTE_SET -/

/-- The kind-specific checks of ROUTE_SET (R44, R45). -/
def State.routeSetRefusal (s : State) (r : RouteId) (c : RouteConfig) : Option Status :=
  if (s.route r).held then some .routeHeld
  else if 0 < (s.route r).jobs then some .routeInUse
  else if s.duplicate r c then some .duplicate
  else none

/-- A route configured afresh (R46): HELD, HOLD_RECORD and JOBS are not changed. -/
def Route.configure (rt : Route) (c : RouteConfig) : Route :=
  { rt with config := some c, presence := .unknown, goodStreak := 0, badStreak := 0, nextPost := 1 }

/-- A watch whose route is configured afresh forgets its value (R47). -/
def Watch.routeChanged (r : RouteId) (x : Watch) : Watch :=
  if x.refersTo r then { x with lastValue := none } else x

/-- An accepted ROUTE_SET (R46, R47). -/
def State.configureRoute (s : State) (r : RouteId) (c : RouteConfig) : State :=
  let t := s.setRoute r ((s.route r).configure c)
  State.sealChanges { t with watches := mapTable (Watch.routeChanged r) t.watches }
    fun w => (s.watch w).refersTo r

/-- ROUTE_SET past the general checks. -/
def State.routeSet (s : State) (f : Frame) (form : RouteId × RouteConfig) : State :=
  match s.routeSetRefusal form.1 form.2 with
  | some st => s.refuse f st
  | none =>
    (s.configureRoute form.1 form.2).answer f
      [Status.code .ok, byte form.1.val, flagByte (s.route form.1).configured, byte (s.watchesOf form.1)]

/-- ROUTE_SET (R43 to R47). -/
def execRouteSet (s : State) : Answer := .next (s.request .routeSet readRouteSet State.routeSet)

/-! ### ROUTE_GET and ROUTE_CLEAR -/

/-- ROUTE_GET (R49). -/
def execRouteGet (s : State) : Answer :=
  .next (s.request .routeGet readRoute fun t f r => t.answer f (routeGetPayload t r))

/-- The kind-specific checks of ROUTE_CLEAR (R50). -/
def State.routeClearRefusal (s : State) (r : RouteId) : Option Status :=
  if (s.route r).held then some .routeHeld
  else if 0 < (s.route r).jobs ∨ 0 < s.watchesOf r then some .routeInUse
  else if !(s.route r).configured then some .badRoute
  else none

/-- A route freed (R51): HELD, HOLD_RECORD and JOBS are not changed. -/
def Route.freed (rt : Route) : Route :=
  { rt with config := none, presence := .unknown, goodStreak := 0, badStreak := 0, nextPost := 1 }

/-- ROUTE_CLEAR past the general checks. -/
def State.routeClear (s : State) (f : Frame) (r : RouteId) : State :=
  match s.routeClearRefusal r with
  | some st => s.refuse f st
  | none => (s.setRoute r (s.route r).freed).answer f [Status.code .ok, byte r.val]

/-- ROUTE_CLEAR (R50, R51). -/
def execRouteClear (s : State) : Answer := .next (s.request .routeClear readRoute State.routeClear)

/-! ### HOLD_RELEASE -/

/-- HOLD_RELEASE past the general checks (R129). -/
def State.holdRelease (s : State) (f : Frame) (r : RouteId) : State :=
  match (s.route r).hold with
  | none => s.refuse f .notHeld
  | some h =>
    (s.setRoute r { s.route r with hold := none }).answer f ([Status.code .ok, byte r.val] ++ h.bytes)

/-- HOLD_RELEASE (R129). -/
def execHoldRelease (s : State) : Answer := .next (s.request .holdRelease readRoute State.holdRelease)

/-! ### PRESENCE_RESET -/

/-- The judgement starts afresh (R142), with a PRESENCE notice if the state changes and NOTIFY is on (R139). -/
def State.resetPresence (s : State) (r : RouteId) : State :=
  let rt := s.route r
  let s := s.setRoute r { rt with goodStreak := 0, badStreak := 0 }
  if rt.presence = .unknown then s else s.changePresence r none .unknown

/-- PRESENCE_RESET past the general checks (R141, R142). -/
def State.presenceReset (s : State) (f : Frame) (r : RouteId) : State :=
  if (s.route r).configured then
    (s.resetPresence r).answer f [Status.code .ok, byte r.val, (s.route r).presence.code]
  else s.refuse f .badRoute

/-- PRESENCE_RESET (R141 to R143). -/
def execPresenceReset (s : State) : Answer := .next (s.request .presenceReset readRoute State.presenceReset)

/-! ### The waiting late failure -/

/-- The branch of a route selects if it is IDLE, jobs having left its queue (R67, R75). -/
def State.selectForRoute (s : State) (r : RouteId) : State :=
  match (s.route r).config with
  | none => s
  | some c => s.selectIfIdle c.branch

/-- WAITING_LATE_FAILURE_CARRIED_OUT (R127): the route has no job on the wires any more, so its waiting late failure is
carried out, or counted in CLOSING, and the branch's engine, if IDLE, selects. The events in which a job leaves the wires
do this themselves (log 10). -/
def execWaitingLateFailureCarriedOut (r : RouteId) (s : State) : Answer :=
  .next (if (s.route r).waiting.isNone || s.routeOnWires r then s else (s.settleWaiting r).selectForRoute r)

end Sys2Proof.Machine
end

