-- ==== Sys2Proof/Machine/Transfers.lean ====
section
/-! DEFINITION. The transfer commands (04): XFER, BROADCAST, CANCEL, the deadline and the retry wait of a job. -/

namespace Sys2Proof.Machine

/-! ### Acceptance -/

/-- A new job in a free slot, with the values every job starts with (R56). -/
def newJob (slot : SlotId) (now : Nat) (origin : Origin) (route : Option RouteId) (branch : BranchId) (op : Op)
    (writeData : List Byte) (readCount : Nat) (urgent : Bool) (post : Option Nat) (deadline : Nat) : Job where
  slot := slot
  origin := origin
  route := route
  branch := branch
  op := op
  writeData := writeData
  readCount := readCount
  urgent := urgent
  post := post
  acceptedAt := now
  deadlineAt := now + deadline
  attempts := 0
  arbLosses := 0
  state := .queued
  ackedWrites := 0
  readData := []
  addressAcked := false
  cancelTag := none

/-- A slot for a host job, unless 20 host jobs are in the pool or all 24 slots are taken (R58, R60, R62). -/
def State.hostSlot (s : State) : Option SlotId := if Config.hostShare ≤ s.hostJobs then none else s.freeSlot

/-- The job joins its branch queue, and the engine, if IDLE, selects afresh (R61, R63, R155). -/
def State.acceptJob (s : State) (j : Job) : State := (s.placeInQueue j).selectIfIdle j.branch

/-! ### XFER -/

/-- The checks of XFER against the route and its branch, up to the pool's (R60, checks 1 to 5; R140). -/
def State.xferRefusal (s : State) (x : XferForm) : Option Status :=
  match (s.route x.route).config with
  | none => some .badRoute
  | some c =>
    if (s.route x.route).held then some .routeHeld
    else if (s.branch c.branch).down then some .branchDown
    else if (s.route x.route).presence = .absent ∧ (x.probe = false ∨ x.posted = true) then some .absent
    else if x.posted && !c.posting then some .badForm
    else none

/-- An owed XFER is accepted (R61): its reply is owed under the job's TAG. -/
def State.acceptOwed (s : State) (tag : Byte) (x : XferForm) (c : RouteConfig) (slot : SlotId) : State :=
  (s.jobJoins x.route).acceptJob
    (newJob slot s.now (.host tag) (some x.route) c.branch x.op x.writeData x.readCount x.urgent none c.deadline)

/-- A posted XFER is accepted (R61, R121): it takes NEXT_POST, which advances, and its POSTED reply joins the reply
queue at once. -/
def State.acceptPosted (s : State) (f : Frame) (x : XferForm) (c : RouteConfig) (slot : SlotId) : State :=
  let post := (s.route x.route).nextPost
  let t := s.setRoute x.route { s.route x.route with nextPost := nextNumber post }
  let t := t.answer f (Status.code .posted :: bytes16 post)
  (t.jobJoins x.route).acceptJob
    (newJob slot s.now (.host f.tag) (some x.route) c.branch x.op x.writeData x.readCount x.urgent (some post)
      c.deadline)

/-- XFER past the general checks (R60, R61). -/
def State.xfer (s : State) (f : Frame) (x : XferForm) : State :=
  match s.xferRefusal x, (s.route x.route).config, s.hostSlot with
  | some st, _, _ => s.refuse f st
  | none, none, _ => s.refuse f .badRoute
  | none, some _, none => s.refuse f .busy
  | none, some c, some slot =>
    if x.posted then s.acceptPosted f x c slot else s.acceptOwed f.tag x c slot

/-- XFER (R59 to R61). -/
def execXfer (s : State) : Answer := .next (s.request .xfer readXfer State.xfer)

/-! ### BROADCAST -/

/-- BROADCAST past the general checks (R62, R63). -/
def State.broadcast (s : State) (f : Frame) (x : BroadcastForm) : State :=
  if (s.branch x.branch).down then s.refuse f .branchDown
  else match s.hostSlot with
    | none => s.refuse f .busy
    | some slot =>
      s.acceptJob (newJob slot s.now (.host f.tag) none x.branch .broadcast x.writeData 0 x.urgent none
        Config.broadcastDeadline)

/-- BROADCAST (R62, R63). -/
def execBroadcast (s : State) : Answer := .next (s.request .broadcast readBroadcast State.broadcast)

/-! ### CANCEL -/

/-- The owed job whose TAG is the target (R76). -/
def State.owedJob (s : State) (target : Byte) : Option Job :=
  s.jobs.find? fun j => j.owedTag == some target

/-- Every reply to a CANCEL past the general checks carries its status and TARGET (R76, R174). -/
def State.answerCancel (s : State) (f : Frame) (target : Byte) (st : Status) : State :=
  s.answer f [st.code, target]

/-- The CANCEL's TAG is recorded on the job, and its reply is deferred (R78). -/
def State.deferCancel (s : State) (j : Job) (tag : Byte) : State :=
  s.updateJob j fun i => { i with cancelTag := some tag }

/-- CANCEL past the general checks (R76 to R79). -/
def State.cancel (atBoundary : Bool) (s : State) (f : Frame) (target : Byte) : State :=
  match s.owedJob target with
  | none => s.answerCancel f target .notFound
  | some j =>
    match j.state with
    | .queued | .retryWait _ =>
      ((s.endJob j.withoutProgress .cancelled).answerCancel f target .ok).selectIfIdle j.branch
    | .active => (s.deferCancel j f.tag).makeEnding j .cancel atBoundary
    | .ending .cancel => s.answerCancel f target .cancelPending
    | .ending .deadline => s.answerCancel f target .tooLate
    | .ending .close => s.answerCancel f target .tooLate

/-- CANCEL (R76 to R80). -/
def execCancel (atBoundary : Bool) (s : State) : Answer :=
  .next (s.request .cancel readCancel (State.cancel atBoundary))

/-! ### The two timers of a job -/

/-- The deadline of a job has expired (R69). -/
def State.deadlineExpires (s : State) (j : Job) (atBoundary : Bool) : State :=
  match j.state with
  | .queued | .retryWait _ => (s.endJob j.withoutProgress .deadline).selectIfIdle j.branch
  | .active => s.makeEnding j .deadline atBoundary
  | .ending _ => s

/-- JOB_DEADLINE_EXPIRES (R69): of the job in the slot, no earlier than its DEADLINE_AT. -/
def execJobDeadlineExpires (slot : SlotId) (atBoundary : Bool) (s : State) : Answer :=
  match s.findJob slot with
  | none => .next s
  | some j => .next (if j.deadlineAt ≤ s.now then s.deadlineExpires j atBoundary else s)

/-- The retry wait of a job has ended (R70): the job is QUEUED in its place, and an IDLE engine selects. -/
def State.retryEnds (s : State) (j : Job) : State :=
  (s.updateJob j fun i => { i with state := .queued }).selectIfIdle j.branch

/-- RETRY_WAIT_ENDS (R70): of the job in the slot, no earlier than its READY_AT. -/
def execRetryWaitEnds (slot : SlotId) (s : State) : Answer :=
  match s.findJob slot with
  | none => .next s
  | some j =>
    match j.state with
    | .retryWait readyAt => .next (if readyAt ≤ s.now then s.retryEnds j else s)
    | .queued => .next s
    | .active => .next s
    | .ending _ => .next s

end Sys2Proof.Machine
end

