-- ==== Sys2Proof/Machine/Branches.lean ====
section
/-! DEFINITION. The branch commands: BRANCH_SET, BRANCH_GET (05) and BRANCH_RESET (06), and the line monitor's events:
BUS_FREE_SET and BRANCH_LINE_LEVEL_CHANGE (05, 06). -/

namespace Sys2Proof.Machine

/-! ### BRANCH_SET, BRANCH_GET, BRANCH_RESET -/

/-- BRANCH_SET past the general checks (R82, R83). The engine that enters IDLE from OFF finds its queue empty, by the
check just made, so its selection takes nothing. The line monitor measures the new SPEED's bus idle time from here on.
-- DESIGN CHOICE (log 28; unsafe): BUS_FREE stays as it is, set under the old idle time or not. The spec does not say
whether a longer idle time clears it. -/
def State.branchSet (s : State) (f : Frame) (form : BranchId × BranchConfig) : State :=
  let br := s.branch form.1
  if br.engine.settled && br.queue.isEmpty then
    let engine := br.engine.afterBranchSet form.2.enabled
    (s.setBranch form.1 { br with config := form.2, engine := engine }).answer f
      [Status.code .ok, byte form.1.val, engine.code]
  else s.refuse f .branchBusy

/-- BRANCH_SET (R82, R83). -/
def execBranchSet (s : State) : Answer := .next (s.request .branchSet readBranchSet State.branchSet)

/-- BRANCH_GET (R84). -/
def execBranchGet (s : State) : Answer :=
  .next (s.request .branchGet readBranch fun t f b => t.answer f (branchGetPayload t b))

/-- BRANCH_RESET past the general checks (R117, R118): its reply is owed, and the engine enters RECOVERING. -/
def State.branchReset (s : State) (f : Frame) (b : BranchId) : State :=
  match (s.branch b).engine with
  | .off => s.refuse f .branchDown
  | .idle | .isolated => (s.setPendingReset b (some f.tag)).enterRecovery b .reset
  | .waitFree _ | .active _ | .recovering _ => s.refuse f .branchBusy

/-- BRANCH_RESET (R117, R118). -/
def execBranchReset (s : State) : Answer := .next (s.request .branchReset readBranch State.branchReset)

/-! ### The line monitor -/

/-- BUS_FREE becomes set: it ends WAIT_FREE (R89), and it ends a recovery's IDLE_WAIT in success (R112). -/
def State.busBecomesFree (s : State) (b : BranchId) : State :=
  let s := s.setBranch b { s.branch b with busFree := true }
  match (s.branch b).engine with
  | .waitFree _ => s.becomeIdle b
  | .recovering r => s.recoverySucceeds b r.cause
  | .off => s
  | .idle => s
  | .active _ => s
  | .isolated => s

/-- Both lines can have stayed high for the bus idle time: the engine is not driving them (R85, R87). It drives them in
ACTIVE and in every step of a recovery but IDLE_WAIT; in RELEASE it waits under a low clock. -/
def Engine.leavesLinesAlone : Engine → Bool
  | .off => true
  | .idle => true
  | .waitFree _ => true
  | .isolated => true
  | .active _ => false
  | .recovering r => r.step == .idleWait

/-- BUS_FREE_SET (R87): BUS_FREE is clear, and both lines have been high for the bus idle time. -/
def execBusFreeSet (b : BranchId) (s : State) : Answer :=
  let br := s.branch b
  .next (if !br.busFree && br.lines.clockHigh && br.lines.dataHigh && br.engine.leavesLinesAlone then
    s.busBecomesFree b else s)

/-- The level of one of the lines. -/
def lineLevel (lines : Lines) : BusLine → Bool
  | .clock => lines.clockHigh
  | .data => lines.dataHigh

/-- The lines with one of them at a level. -/
def withLevel (lines : Lines) (line : BusLine) (high : Bool) : Lines :=
  match line with
  | .clock => { lines with clockHigh := high }
  | .data => { lines with dataHigh := high }

/-- A line of a conducted transfer is seen to change (R96): the clock line seen high stops the stretch interval; seen
low, outside START, it begins another clock release, with a stretch interval of its own (log 16).
-- DESIGN CHOICE (log 29; safe): so does a fall after the release that RESTART or STOPPING waits for, where R96 speaks of the
high half of a bit alone. -/
def Conduct.onLine (c : Conduct) (now limit : Nat) (line : BusLine) (clockHigh : Bool) : Conduct :=
  match line with
  | .data => c
  | .clock =>
    if clockHigh then { c with stretch := none }
    else match c.phase with
      | .start => c
      | .address _ | .writing _ | .reading _ | .restart | .stopping _ => { c with stretch := some ⟨now, limit⟩ }

/-- The clock line seen high stops the clock interval of a pulse or of the recovery's stop (R109, R110).
-- DESIGN CHOICE (log 33; unsafe): the line seen low again before the pulse or the stop is done starts no clock interval;
IDLE_WAIT times one found low on entry after the stop (R110). -/
def Recovery.onLine (r : Recovery) (line : BusLine) (clockHigh : Bool) : Recovery :=
  match line with
  | .data => r
  | .clock => if clockHigh then { r with clock := none } else r

/-- What a line change makes the engine do, the branch having seen it: it starts, stops or restarts the stuck-line
interval of WAIT_FREE and IDLE_WAIT (R89, R110), and the stretch interval of a transfer (R96); it stops the clock interval
of a pulse or of a recovery's stop (R109, R110); and a recovery waiting in RELEASE goes on when the clock rises (R109). -/
def Branch.react (br : Branch) (now : Nat) (line : BusLine) : Branch :=
  match br.engine with
  | .waitFree stuck =>
    { br with engine := .waitFree (stuckOnChange now br.config.stretchLimit line br.lines stuck) }
  | .recovering r =>
    match r.step with
    | .idleWait =>
      { br with
        engine := .recovering { r with stuck := stuckOnChange now br.config.stretchLimit line br.lines r.stuck } }
    | .release => if br.lines.clockHigh then br.recoverUnderHighClock now r.cause else br
    | .pulsing | .stop => { br with engine := .recovering (r.onLine line br.lines.clockHigh) }
  | .active c => { br with engine := .active (c.onLine now br.config.stretchLimit line br.lines.clockHigh) }
  | .off => br
  | .idle => br
  | .isolated => br

/-- BRANCH_LINE_LEVEL_CHANGE (R87, R89, R96, R109, R110): a line is seen to change, in any engine state. -/
def execBranchLineLevelChange (b : BranchId) (line : BusLine) (high : Bool) (s : State) : Answer :=
  let br := s.branch b
  .next (if lineLevel br.lines line == high then s
    else s.setBranch b ((br.see (withLevel br.lines line high)).react s.now line))

end Sys2Proof.Machine
end

