-- ==== Sys2Proof/Machine/Conduct.lean ====
section
/-! DEFINITION. Conducting a transfer (05) and its contention (06): the phases, the stop, the stretch timeout and the
contradiction of the data line. -/

namespace Sys2Proof.Machine

/-- The engine of the branch conducts this job: its conduct record, and the job in its queue (R85, R90). -/
def State.conducting (s : State) (b : BranchId) : Option (Conduct × Job) :=
  match (s.branch b).engine with
  | .active c =>
    match (s.branch b).queue.find? fun j => j.slot == c.slot with
    | none => none
    | some j => some (c, j)
  | .off => none
  | .idle => none
  | .waitFree _ => none
  | .recovering _ => none
  | .isolated => none

/-- The engine goes on to a phase, or to the next byte of one. It has pulled the clock line low for the phase's first bit,
and a stretch interval runs for the release that follows (R90, R91, R96; log 16). -/
def State.enterPhase (s : State) (b : BranchId) (c : Conduct) (p : Phase) : State :=
  s.setBranch b { (s.branch b).pullsClock with
    engine := .active { c with phase := p, stretch := some ⟨s.now, (s.branch b).config.stretchLimit⟩ } }

/-- The END_CAUSE of a job that is ENDING (R56). -/
def Job.endCause (j : Job) : Option EndCause :=
  match j.state with
  | .ending cause => some cause
  | .queued => none
  | .retryWait _ => none
  | .active => none

/-- The phase after a byte at whose boundary an ENDING job stops (R98, R99), and which otherwise goes on to `next`. -/
def Job.goOnTo (j : Job) (next : Phase) : Phase :=
  match j.endCause with
  | none => next
  | some cause => .stopping (.byteBoundary cause)

/-! ### START, ADDRESS, WRITING, READING, RESTART -/

/-- START_PHASE_DONE (R91): the start condition is complete, and the ADDRESS phase begins. -/
def execStartPhaseDone (b : BranchId) (s : State) : Answer :=
  match s.conducting b with
  | none => .next s
  | some (c, _) =>
    match c.phase with
    | .start => .next (s.enterPhase b c (.address false))
    | .address _ | .writing _ | .reading _ | .restart | .stopping _ => .next s

/-- RESTART_PHASE_DONE (R91): the repeated start is complete, and the repeated address is sent. -/
def execRestartPhaseDone (b : BranchId) (s : State) : Answer :=
  match s.conducting b with
  | none => .next s
  | some (c, _) =>
    match c.phase with
    | .restart => .next (s.enterPhase b c (.address true))
    | .start | .address _ | .writing _ | .reading _ | .stopping _ => .next s

/-- The phase after the acknowledge of the first address (R90, R92): an address-only WRITE has completed, whatever its
END_CAUSE (R99, case 1). -/
def Job.afterFirstAddress (j : Job) : Phase :=
  match j.op with
  | .write => if j.writeData.isEmpty then .stopping .completed else j.goOnTo (.writing 0)
  | .read => j.goOnTo (.reading 0)
  | .writeRead => j.goOnTo (.writing 0)
  | .broadcast => j.goOnTo (.writing 0)

/-- The first address is acknowledged: ADDRESS_ACKED becomes yes (R92). -/
def State.ackAddress (s : State) (j : Job) : State := s.updateJob j fun i => { i with addressAcked := true }

/-- ADDRESS_PHASE_DONE (R92, R98, R99): the acknowledge bit of the first or the repeated address is taken. -/
def execAddressPhaseDone (b : BranchId) (acknowledged : Bool) (s : State) : Answer :=
  match s.conducting b with
  | none => .next s
  | some (c, j) =>
    match c.phase with
    | .address false =>
      if acknowledged then .next ((s.ackAddress j).enterPhase b c j.afterFirstAddress)
      else .next (s.enterPhase b c (.stopping (.firstRefused s.now)))
    | .address true =>
      if acknowledged then .next (s.enterPhase b c (j.goOnTo (.reading 0)))
      else .next (s.enterPhase b c (j.goOnTo (.stopping .repeatedRefused)))
    | .start | .writing _ | .reading _ | .restart | .stopping _ => .next s

/-- Byte `k` is the last byte the job calls for in WRITING: the last written byte of a WRITE or BROADCAST (R99). -/
def Job.lastWritten (j : Job) (k : Nat) : Bool :=
  decide (j.writeData.length ≤ k + 1) && j.op != .writeRead

/-- The phase after written byte `k` is acknowledged (R93, R99): completed if it was the last the job calls for, at
the boundary if the job is ENDING, the next byte if bytes remain, and otherwise the repeated start. -/
def Job.afterWritten (j : Job) (k : Nat) : Phase :=
  if j.lastWritten k then .stopping .completed
  else j.goOnTo (if k + 1 < j.writeData.length then .writing (k + 1) else .restart)

/-- The phase after written byte `k` is refused (R93): NACK_DATA, unless the job is ENDING and the byte is not the
last it calls for (R99, case 2). -/
def Job.afterRefusedByte (j : Job) (k : Nat) : Phase :=
  if j.lastWritten k then .stopping .dataRefused else j.goOnTo (.stopping .dataRefused)

/-- WRITING_BYTE_DONE (R93, R98, R99). -/
def execWritingByteDone (b : BranchId) (acknowledged : Bool) (s : State) : Answer :=
  match s.conducting b with
  | none => .next s
  | some (c, j) =>
    match c.phase with
    | .writing k =>
      if acknowledged then
        .next ((s.updateJob j fun i => { i with ackedWrites := k + 1 }).enterPhase b c (j.afterWritten k))
      else .next (s.enterPhase b c (j.afterRefusedByte k))
    | .start | .address _ | .reading _ | .restart | .stopping _ => .next s

/-- Byte `k` is the last the job reads (R94). -/
def Job.lastRead (j : Job) (k : Nat) : Bool := decide (j.readCount ≤ k + 1)

/-- READ_DATA takes a byte (R94). -/
def State.appendRead (s : State) (j : Job) (received : Byte) : State :=
  s.updateJob j fun i => { i with readData := i.readData ++ [received] }

/-- The phase after byte `k` is received (R94, R98, R99). -/
def Job.afterRead (j : Job) (k : Nat) : Phase :=
  if j.lastRead k then .stopping .completed else j.goOnTo (.reading (k + 1))

/-- The job with a byte of READING whose 8 bits are in, if there is one (R94): READ_DATA takes it after the 8th bit, before
its acknowledge bit is made. -/
def Job.withReceived (j : Job) (p : Phase) (received : Option Byte) : Job :=
  match p, received with
  | .reading _, some byte => { j with readData := j.readData ++ [byte] }
  | .reading _, none => j
  | .start, _ => j
  | .restart, _ => j
  | .stopping _, _ => j
  | .address _, _ => j
  | .writing _, _ => j

/-- READING_BYTE_DONE (R94, R98, R99): the byte, its acknowledge bit made, is in READ_DATA. A job that ends on the
acknowledge bit ends with the byte in READ_DATA too: STRETCH_INTERVAL_EXPIRES and CONTRADICTION carry it (log 21). -/
def execReadingByteDone (b : BranchId) (received : Byte) (s : State) : Answer :=
  match s.conducting b with
  | none => .next s
  | some (c, j) =>
    match c.phase with
    | .reading k => .next ((s.appendRead j received).enterPhase b c (j.afterRead k))
    | .start | .address _ | .writing _ | .restart | .stopping _ => .next s

/-! ### STOPPING -/

/-- What the end of STOPPING does to the job (R95, R99, R106). -/
inductive Fate where
  /-- The job ends with a status. -/
  | ends (st : Status)
  /-- The job enters RETRY_WAIT until a time. -/
  | retries (readyAt : Nat)
  deriving DecidableEq, Repr

/-- The fate of a job whose first address was refused (R106, R99 case 4), given its route's configuration. -/
def Job.fateOfRefusal (j : Job) (route : Option RouteConfig) (refusedAt : Nat) : Fate :=
  match j.endCause, route with
  | some cause, _ => .ends cause.status
  | none, none => .ends .nackAddr
  | none, some c => if j.attempts < c.retries then .retries (refusedAt + c.retryDelay) else .ends .nackAddr

/-- The configuration of the route a job addresses; none for a broadcast. -/
def State.routeConfigOf (s : State) (j : Job) : Option RouteConfig :=
  match j.route with
  | none => none
  | some r => (s.route r).config

/-- The fate of a job at the end of its stop (R95, R99, R106). -/
def State.fateAtStop (s : State) (j : Job) (why : StopReason) : Fate :=
  match why with
  | .completed => .ends .ok
  | .dataRefused => .ends .nackData
  | .repeatedRefused => .ends .nackAddr
  | .byteBoundary cause => .ends cause.status
  | .firstRefused refusedAt => j.fateOfRefusal (s.routeConfigOf j) refusedAt

/-- The job enters RETRY_WAIT in its place, its progress cleared and ATTEMPTS raised (R57, R106). -/
def Job.retrying (j : Job) (readyAt : Nat) : Job :=
  { j.withoutProgress with attempts := j.attempts + 1, state := .retryWait readyAt }

/-- The stop is complete: both lines are high again (R95). -/
def Branch.stopped (br : Branch) : Branch := { br with lines := Lines.released, busFree := false }

/-- STOPPING_DONE (R95, R99, R106): the job ends or enters RETRY_WAIT, and the engine returns to IDLE and selects. -/
def execStoppingDone (b : BranchId) (s : State) : Answer :=
  match s.conducting b with
  | none => .next s
  | some (c, j) =>
    match c.phase with
    | .stopping why =>
      let t := s.setBranch b (s.branch b).stopped
      match s.fateAtStop j why with
      | .ends st => .next ((t.endOnWires j st).becomeIdle b)
      | .retries readyAt =>
        .next (((t.updateJob j fun i => i.retrying readyAt).settleRouteOf j).becomeIdle b)
    | .start | .address _ | .writing _ | .reading _ | .restart => .next s

/-! ### Stretch timeout and contradiction -/

/-- STRETCH_INTERVAL_EXPIRES (R96): the job ends STRETCH_TIMEOUT whatever its state, and the engine enters RECOVERING
with the clock line held low. A byte in progress is not counted; on its acknowledge bit it has been received in full, and is
in READ_DATA (R94). -/
def execStretchIntervalExpires (b : BranchId) (seen : StretchEnd) (s : State) : Answer :=
  match s.conducting b with
  | none => .next s
  | some (c, j) =>
    match c.stretch with
    | none => .next s
    | some interval =>
      if interval.due s.now then
        let t := s.setBranch b ((s.branch b).see ⟨false, seen.dataHigh⟩)
        .next ((t.endOnWires (j.withReceived c.phase seen.received) .stretchTimeout).enterRecovery b .stretchTimeout)
      else .next s

/-- The address byte of a phase (R90): the general-call byte of a BROADCAST, or the route's address with the
direction in the lowest bit. -/
def State.addressByte (s : State) (j : Job) (repeated : Bool) : Byte :=
  match s.routeConfigOf j with
  | none => 0x00
  | some c => (c.address.setWidth 8 <<< 1) ||| flagByte (repeated || j.op == .read)

/-- The engine releases the data line and reads it back at some point of the phase (R97): before it pulls it low in
START and RESTART, at a 1 bit of an address or written byte, at the refusal bit of the last read byte or of the byte
at which an ENDING job stops (R94, R98), and at the release that completes a stop. -/
def State.readsBack (s : State) (j : Job) (p : Phase) : Bool :=
  match p with
  | .start => true
  | .restart => true
  | .stopping _ => true
  | .address repeated => s.addressByte j repeated != 0
  | .writing k => j.writeData.getD k 0 != 0
  | .reading k => j.lastRead k || j.endCause.isSome

/-- ARB_LOSS_TOTAL rises (R101, R103, R120). -/
def State.countLoss (s : State) (b : BranchId) : State :=
  s.setBranch b { s.branch b with arbLossTotal := bump Config.counterMax (s.branch b).arbLossTotal }

/-- The status of a job that an arbitration loss before the address acknowledge ends (R102), given its ARB_LOSSES
after the increment; none if the job returns to QUEUED (R101). -/
def Job.lossStatus (j : Job) : Option Status :=
  match j.endCause with
  | some cause => some cause.status
  | none => if j.arbLosses < Config.arbLossLimit then none else some .arbLost

/-- The job returns to QUEUED in its place (R101): its progress is cleared (R57) and the loss counted. -/
def Job.requeued (j : Job) : Job := { j.withoutProgress with arbLosses := j.arbLosses + 1, state := .queued }

/-- An arbitration loss before the address acknowledge (R101, R102). -/
def State.lossBeforeAck (s : State) (b : BranchId) (j : Job) : State :=
  let s := s.countLoss b
  let lost := { j with arbLosses := j.arbLosses + 1 }
  match lost.lossStatus with
  | none => ((s.updateJob j Job.requeued).settleRouteOf j).enterWaitFree b
  | some st => (s.endOnWires lost.withoutProgress st).enterWaitFree b

/-- An arbitration loss after the address acknowledge (R103). -/
def State.lossAfterAck (s : State) (b : BranchId) (j : Job) : State :=
  ((s.countLoss b).endOnWires j .arbLostData).enterWaitFree b

/-- A bus fault (R104). -/
def State.busFault (s : State) (b : BranchId) (j : Job) : State :=
  (s.endOnWires j .busFault).enterRecovery b .busFault

/-- CONTRADICTION (R97, R101 to R104): the data line is read low, under a high clock, where the engine has released it.
The engine releases both lines. -/
def execContradiction (b : BranchId) (received : Byte) (s : State) : Answer :=
  match s.conducting b with
  | none => .next s
  | some (c, j) =>
    if s.readsBack j c.phase then
      let t := s.setBranch b ((s.branch b).see ⟨true, false⟩)
      let i := j.withReceived c.phase (some received)
      .next (if (s.branch b).config.multi then
          if j.addressAcked then t.lossAfterAck b i else t.lossBeforeAck b i
        else t.busFault b i)
    else .next s

end Sys2Proof.Machine
end

