-- ==== Sys2Proof/Machine/Recovery.lean ====
section
/-! DEFINITION. The recovery of a stuck bus (06): the stuck-line interval, the clock interval, the pulses and the stop. -/

namespace Sys2Proof.Machine

/-- The recovery of a branch, while its engine is RECOVERING (R108). -/
def State.recovery (s : State) (b : BranchId) : Option Recovery :=
  match (s.branch b).engine with
  | .recovering r => some r
  | .off => none
  | .idle => none
  | .waitFree _ => none
  | .active _ => none
  | .isolated => none

/-- The cause recorded when a stuck line takes the engine from WAIT_FREE to RECOVERING (R108). -/
def stuckCause : BusLine → RecoveryCause
  | .clock => .stretchTimeout
  | .data => .busFault

/-- The stuck-line interval has expired. -/
def stuckDue (stuck : Option Stuck) (now : Nat) : Bool :=
  match stuck with
  | none => false
  | some x => x.interval.due now

/-- The clock interval has expired. -/
def clockDue (clock : Option Interval) (now : Nat) : Bool :=
  match clock with
  | none => false
  | some i => i.due now

/-- STUCK_LINE_INTERVAL_EXPIRES (R89, R108, R113): in WAIT_FREE the engine enters RECOVERING; in IDLE_WAIT the recovery
fails. -/
def execStuckLineIntervalExpires (b : BranchId) (s : State) : Answer :=
  match (s.branch b).engine with
  | .waitFree stuck =>
    match stuck with
    | none => .next s
    | some x => .next (if x.interval.due s.now then s.enterRecovery b (stuckCause x.line) else s)
  | .recovering r =>
    .next (if r.step = .idleWait ∧ stuckDue r.stuck s.now then s.recoveryFails b r.cause else s)
  | .off => .next s
  | .idle => .next s
  | .active _ => .next s
  | .isolated => .next s

/-- RECOVERY_CLOCK_INTERVAL_EXPIRES (R109, R110, R113): the clock line is held low in RELEASE, PULSING or STOP, and the
recovery fails. -/
def execRecoveryClockIntervalExpires (b : BranchId) (s : State) : Answer :=
  match s.recovery b with
  | none => .next s
  | some r =>
    .next (if r.step ≠ .idleWait ∧ clockDue r.clock s.now then
      (s.setBranch b ((s.branch b).see ⟨false, (s.branch b).lines.dataHigh⟩)).recoveryFails b r.cause
    else s)

/-- The recovery after a pulse (R109), the data line being read high or low: the STOP step, or the next pulse. Either pulls
the clock line low again and waits for it under a clock interval.
-- DESIGN CHOICE (log 32; safe): the interval is dated from that pull, half a bit period before the release. -/
def Recovery.afterPulse (r : Recovery) (now limit : Nat) (dataHigh : Bool) : Recovery :=
  { r with step := if dataHigh then .stop else .pulsing, pulses := r.pulses + 1, clock := some ⟨now, limit⟩ }

/-- The branch after the reading that follows a pulse: the data line is read while the clock is high (R109), and the
engine's own pulling keeps BUS_FREE clear (R87). -/
def Branch.pulsed (br : Branch) (dataHigh : Bool) : Branch := { br with lines := ⟨true, dataHigh⟩, busFree := false }

/-- RECOVERY_PULSE_DONE (R109, R113): the pulse is counted and the data line read; it goes to STOP if the line is high,
fails at the ninth pulse if it is low, and otherwise issues the next pulse. -/
def execRecoveryPulseDone (b : BranchId) (dataHigh : Bool) (s : State) : Answer :=
  match s.recovery b with
  | none => .next s
  | some r =>
    if r.step = .pulsing then
      let t := s.setBranch b ((s.branch b).pulsed dataHigh)
      if dataHigh = false ∧ Config.recoveryPulses ≤ r.pulses + 1 then .next (t.recoveryFails b r.cause)
      else .next (s.setBranch b { ((s.branch b).pulsed dataHigh).pullsClock with
        engine := .recovering (r.afterPulse s.now (s.branch b).config.stretchLimit dataHigh) })
    else .next s

/-- The level of the clock line as the recovery's stop is made (R110). A clock interval still running says that the rise
the stop waits for comes with the stop itself (log 13). One that has stopped says that the rise was seen before, and the
line then stands as it was last seen: low, if it fell again (log 33). -/
def Recovery.clockAtStop (r : Recovery) (lines : Lines) : Bool := r.clock.isSome || lines.clockHigh

/-- The branch as the recovery's stop is made (R110): both lines are released, and show what other parties leave them
at; the engine's own pulling has cleared BUS_FREE (R87). -/
def Branch.stopMade (br : Branch) (r : Recovery) (dataHigh : Bool) : Branch :=
  { br with lines := ⟨r.clockAtStop br.lines, dataHigh⟩, busFree := false }

/-- RECOVERY_STOP_DONE (R110): the stop is made and the engine enters IDLE_WAIT, where a line found low on entry is timed by
the stuck-line interval, with the starts of R89: the clock line if it is low, and otherwise a data line still held low. -/
def execRecoveryStopDone (b : BranchId) (dataHigh : Bool) (s : State) : Answer :=
  match s.recovery b with
  | none => .next s
  | some r =>
    if r.step = .stop then
      let br := (s.branch b).stopMade r dataHigh
      .next (s.setBranch b { br with engine := .recovering { r with
        step := .idleWait
        clock := none
        stuck := stuckOnEntry s.now br.config.stretchLimit br.lines } })
    else .next s

end Sys2Proof.Machine
end

