-- ==== Sys2Proof/Machine/Watches.lean ====
section
/-! DEFINITION. The watch commands (09): WATCH_SET, WATCH_GET, WATCH_CLEAR and the expiry of a countdown with its poll. -/

namespace Sys2Proof.Machine

/-- A watch set (R151). -/
def Watch.configure (x : Watch) (c : WatchConfig) : Watch :=
  { x with
    config := some c
    generation := nextGeneration x.generation
    armed := c.enabled
    countdown := if c.enabled then c.period else 0
    lastValue := none
    missed := 0 }

/-- WATCH_SET past the general checks (R150, R151). -/
def State.watchSet (s : State) (f : Frame) (form : WatchId × WatchConfig) : State :=
  let x := s.watch form.1
  if !(s.route form.2.route).configured then s.refuse f .badRoute
  else if x.pollOut then s.refuse f .watchBusy
  else
    ((s.setWatch form.1 (x.configure form.2)).sealChanges (· == form.1)).answer f
      [Status.code .ok, byte form.1.val, byte (nextGeneration x.generation)]

/-- WATCH_SET (R149 to R151). -/
def execWatchSet (s : State) : Answer := .next (s.request .watchSet readWatchSet State.watchSet)

/-- WATCH_GET (R153). -/
def execWatchGet (s : State) : Answer :=
  .next (s.request .watchGet readWatch fun t f w => t.answer f (watchGetPayload t w))

/-- A watch cleared (R152). -/
def Watch.cleared (x : Watch) : Watch :=
  { x with
    config := none
    generation := nextGeneration x.generation
    armed := false
    countdown := 0
    lastValue := none
    missed := 0 }

/-- WATCH_CLEAR past the general checks (R152). -/
def State.watchClear (s : State) (f : Frame) (w : WatchId) : State :=
  let x := s.watch w
  if x.config.isNone then s.refuse f .notFound
  else if x.pollOut then s.refuse f .watchBusy
  else
    ((s.setWatch w x.cleared).sealChanges (· == w)).answer f
      [Status.code .ok, byte w.val, byte (nextGeneration x.generation)]

/-- WATCH_CLEAR (R152). -/
def execWatchClear (s : State) : Answer := .next (s.request .watchClear readWatch State.watchClear)

/-! ### Expiry -/

/-- The slot and the route configuration with which an expiry makes a poll, unless the previous poll is out, the route
is held, its branch is OFF or ISOLATED, or the pool is full (R154). A watch's route is configured (R50; log 25). -/
def State.pollPlan (s : State) (x : Watch) (c : WatchConfig) : Option (SlotId × RouteConfig) :=
  match (s.route c.route).config, s.freeSlot with
  | some rc, some slot =>
    if x.pollOut || (s.route c.route).held || (s.branch rc.branch).down then none else some (slot, rc)
  | _, _ => none

/-- A poll is made (R155): it joins its branch queue at the tail, and the engine, if IDLE, selects. -/
def State.makePoll (s : State) (w : WatchId) (c : WatchConfig) (slot : SlotId) (rc : RouteConfig) : State :=
  let t := s.setWatch w { s.watch w with pollOut := true }
  (t.jobJoins c.route).acceptJob
    (newJob slot s.now (.watch w) (some c.route) rc.branch (if c.lead.isEmpty then .read else .writeRead) c.lead
      c.length false none rc.deadline)

/-- MISSED rises, stopping at 255 (R154). -/
def State.countMissed (s : State) (w : WatchId) : State :=
  s.setWatch w { s.watch w with missed := bump Config.countMax (s.watch w).missed }

/-- The countdown of an armed watch has expired (R148, R154, R155): it restarts, and a poll is made or missed. -/
def State.countdownExpires (s : State) (w : WatchId) (c : WatchConfig) : State :=
  let s := s.setWatch w { s.watch w with countdown := c.period }
  match s.pollPlan (s.watch w) c with
  | none => s.countMissed w
  | some (slot, rc) => s.makePoll w c slot rc

/-- WATCH_COUNTDOWN_EXPIRES (R154): of an armed watch, once no ms of its countdown remain. -/
def execWatchCountdownExpires (w : WatchId) (s : State) : Answer :=
  match (s.watch w).config with
  | none => .next s
  | some c => .next (if (s.watch w).armed ∧ (s.watch w).countdown = 0 then s.countdownExpires w c else s)

/-! ### Time -/

/-- A watch's countdown falls by one ms while it is armed (R146, R148). -/
def Watch.tick (x : Watch) : Watch := if x.armed then { x with countdown := x.countdown - 1 } else x

/-- One ms passes (00, Time; log 2). -/
def State.tick (s : State) : State := { s with now := s.now + 1, watches := mapTable Watch.tick s.watches }

end Sys2Proof.Machine
end

