-- ==== Sys2Proof/Machine/Dispatch.lean ====
section
/-! DEFINITION. The meaning of every command: one arm for each row of spec/opcode_table.json. -/

namespace Sys2Proof.Machine

/-- The effect of a command on everything but the queue. -/
def exec (i : Instr) (s : State) : Host.Outcome State Fault Refusal :=
  match i with
  | .fullReset cause lspd lines => Sys2Proof.Machine.execFullReset cause lspd lines s
  | .byteArrives c => Sys2Proof.Machine.execByteArrives c s
  | .gapIntervalExpires => Sys2Proof.Machine.execGapIntervalExpires s
  | .transmitStart => Sys2Proof.Machine.execTransmitStart s
  | .frameTransmitted => Sys2Proof.Machine.execFrameTransmitted s
  | .restartEffects => Sys2Proof.Machine.execRestartEffects s
  | .requestOfUnknownKind => Sys2Proof.Machine.execRequestOfUnknownKind s
  | .hello => Sys2Proof.Machine.execHello s
  | .openSession => Sys2Proof.Machine.execOpenSession s
  | .closeSession boundary => Sys2Proof.Machine.execCloseSession boundary s
  | .closeProcedureCompletes => Sys2Proof.Machine.execCloseProcedureCompletes s
  | .restart boundary => Sys2Proof.Machine.execRestart boundary s
  | .status => Sys2Proof.Machine.execStatus s
  | .credit => Sys2Proof.Machine.execCredit s
  | .routeSet => Sys2Proof.Machine.execRouteSet s
  | .routeGet => Sys2Proof.Machine.execRouteGet s
  | .routeClear => Sys2Proof.Machine.execRouteClear s
  | .holdRelease => Sys2Proof.Machine.execHoldRelease s
  | .presenceReset => Sys2Proof.Machine.execPresenceReset s
  | .branchSet => Sys2Proof.Machine.execBranchSet s
  | .branchGet => Sys2Proof.Machine.execBranchGet s
  | .branchReset => Sys2Proof.Machine.execBranchReset s
  | .xfer => Sys2Proof.Machine.execXfer s
  | .broadcast => Sys2Proof.Machine.execBroadcast s
  | .cancel atBoundary => Sys2Proof.Machine.execCancel atBoundary s
  | .watchSet => Sys2Proof.Machine.execWatchSet s
  | .watchGet => Sys2Proof.Machine.execWatchGet s
  | .watchClear => Sys2Proof.Machine.execWatchClear s
  | .jobDeadlineExpires slot atBoundary => Sys2Proof.Machine.execJobDeadlineExpires slot atBoundary s
  | .retryWaitEnds slot => Sys2Proof.Machine.execRetryWaitEnds slot s
  | .busFreeSet branch => Sys2Proof.Machine.execBusFreeSet branch s
  | .stuckLineIntervalExpires branch => Sys2Proof.Machine.execStuckLineIntervalExpires branch s
  | .startPhaseDone branch => Sys2Proof.Machine.execStartPhaseDone branch s
  | .addressPhaseDone branch acknowledged => Sys2Proof.Machine.execAddressPhaseDone branch acknowledged s
  | .writingByteDone branch acknowledged => Sys2Proof.Machine.execWritingByteDone branch acknowledged s
  | .readingByteDone branch received => Sys2Proof.Machine.execReadingByteDone branch received s
  | .restartPhaseDone branch => Sys2Proof.Machine.execRestartPhaseDone branch s
  | .stoppingDone branch => Sys2Proof.Machine.execStoppingDone branch s
  | .stretchIntervalExpires branch seen => Sys2Proof.Machine.execStretchIntervalExpires branch seen s
  | .contradiction branch received => Sys2Proof.Machine.execContradiction branch received s
  | .recoveryClockIntervalExpires branch => Sys2Proof.Machine.execRecoveryClockIntervalExpires branch s
  | .recoveryPulseDone branch dataHigh => Sys2Proof.Machine.execRecoveryPulseDone branch dataHigh s
  | .recoveryStopDone branch dataHigh => Sys2Proof.Machine.execRecoveryStopDone branch dataHigh s
  | .watchCountdownExpires watch => Sys2Proof.Machine.execWatchCountdownExpires watch s
  | .waitingLateFailureCarriedOut route => Sys2Proof.Machine.execWaitingLateFailureCarriedOut route s
  | .branchLineLevelChange branch line high => Sys2Proof.Machine.execBranchLineLevelChange branch line high s

end Sys2Proof.Machine
end

