-- ==== Sys2Proof/Safety.lean ====
section
/-! DEFINITION. What the claims are stated in: runs of commands, a request that may be taken, the ranges of the request
fields and the payloads that spell them, and the laws the spec says the part keeps. -/

namespace Sys2Proof.Machine

/-! ### Runs -/

/-- Commands carried out one after another. -/
def runCommands : List Instr → State → Answer
  | [], s => .next s
  | c :: cs, s =>
    match exec c s with
    | .next t => runCommands cs t
    | .fault r => .fault r
    | .refused r => .refused r

/-- The bytes arriving on HRX one after another, as good characters. -/
def arrivals (bs : List Byte) : List Instr := bs.map fun b => .byteArrives (.char b true)

/-! ### Requests -/

/-- The frame `f` stands at the head of the receive queue, before `rest`, and the dispatcher may take it (R18 to R20). -/
structure ReadyToTake (s : State) (f : Frame) (rest : List Frame) : Prop where
  head : s.rxQueue = f :: rest
  free : s.taking = none
  notClosing : s.session ≠ .closing
  intake : s.intakeStopped = false
  room : s.replies.length + s.owedTags.length ≤ 31

/-- The request at the head is of the kind, with a TAG that is not 0. -/
structure Asks (s : State) (f : Frame) (rest : List Frame) (k : Kind) : Prop where
  ready : ReadyToTake s f rest
  kind : f.kind = k.code
  tag : f.tag ≠ 0

/-- The request is of the kind, and comes in OPEN with a TAG that no owed reply carries. -/
structure AsksOpen (s : State) (f : Frame) (rest : List Frame) (k : Kind) : Prop where
  asks : Asks s f rest k
  opened : s.session = .opened
  fresh : f.tag ∉ s.owedTags

/-- The head of the receive queue has been answered with one reply, and nothing else has changed. -/
def State.afterReply (s : State) (rest : List Frame) (reply : Frame) : State :=
  { s with rxQueue := rest, replies := s.replies ++ [reply] }

/-- A waiting owed job has ended with a status (R57, R73, R74, R77): its reply, under `tag`, is queued, it has left its
queue, and its route's JOBS has fallen. Its outcome is neutral and moves nothing. -/
def State.afterWaitingEnd (s : State) (j : Job) (tag st : Byte) : State :=
  let reply : Frame := if j.op = .broadcast then ⟨0xA1, tag, [st, 0, byte j.arbLosses]⟩
    else ⟨0xA0, tag, [st, 0, 0, byte j.attempts, byte j.arbLosses]⟩
  let t := State.setBranch { s with replies := s.replies ++ [reply] } j.branch
    { s.branch j.branch with queue := (s.branch j.branch).queue.filter fun i => i.slot ≠ j.slot }
  match j.route with
  | none => t
  | some r => t.setRoute r { s.route r with jobs := (s.route r).jobs - 1 }

/-- The kind of request a command takes (R20); none for the events, and for a request of unknown kind. -/
def requestKind : Instr → Option Kind
  | .hello => some .hello
  | .openSession => some .openSession
  | .closeSession _ => some .close
  | .restart _ => some .restart
  | .status => some .status
  | .credit => some .credit
  | .routeSet => some .routeSet
  | .routeGet => some .routeGet
  | .routeClear => some .routeClear
  | .holdRelease => some .holdRelease
  | .presenceReset => some .presenceReset
  | .branchSet => some .branchSet
  | .branchGet => some .branchGet
  | .branchReset => some .branchReset
  | .xfer => some .xfer
  | .broadcast => some .broadcast
  | .cancel _ => some .cancel
  | .watchSet => some .watchSet
  | .watchGet => some .watchGet
  | .watchClear => some .watchClear
  | .fullReset _ _ _ => none
  | .byteArrives _ => none
  | .gapIntervalExpires => none
  | .transmitStart => none
  | .frameTransmitted => none
  | .restartEffects => none
  | .requestOfUnknownKind => none
  | .closeProcedureCompletes => none
  | .jobDeadlineExpires _ _ => none
  | .retryWaitEnds _ => none
  | .busFreeSet _ => none
  | .stuckLineIntervalExpires _ => none
  | .startPhaseDone _ => none
  | .addressPhaseDone _ _ => none
  | .writingByteDone _ _ => none
  | .readingByteDone _ _ => none
  | .restartPhaseDone _ => none
  | .stoppingDone _ => none
  | .stretchIntervalExpires _ _ => none
  | .contradiction _ _ => none
  | .recoveryClockIntervalExpires _ => none
  | .recoveryPulseDone _ _ => none
  | .recoveryStopDone _ _ => none
  | .watchCountdownExpires _ => none
  | .waitingLateFailureCarriedOut _ => none
  | .branchLineLevelChange _ _ _ => none

/-- The payload has the form of the kind: its bytes in their order (R173), each field in the range of the kind's chapter
(R28, R36, R43, R49, R50, R59, R62, R76, R82, R84, R117, R129, R141, R149, R152, R153, R168), and the fields of an XFER a legal
transfer (R59). A payload without it is refused BAD_FORM (R23, R172). -/
def Kind.HasForm (k : Kind) (payload : List Byte) : Prop :=
  let flag := fun b : Byte => b = 0 ∨ b = 1
  let number := fun (lo hi : Nat) (b : Byte) => lo ≤ b.toNat ∧ b.toNat ≤ hi
  let two := fun (lo hi : Nat) (high low : Byte) => lo ≤ 256 * high.toNat + low.toNat ∧ 256 * high.toNat + low.toNat ≤ hi
  let list := fun (lo hi : Nat) (count : Byte) (items : List Byte) =>
    count.toNat = items.length ∧ lo ≤ items.length ∧ items.length ≤ hi
  match k with
  | .hello | .close | .restart => payload = []
  | .openSession => ∃ credits, payload = [credits] ∧ number 0 64 credits
  | .status => ∃ clear, payload = [clear] ∧ flag clear
  | .credit => ∃ amount, payload = [amount] ∧ number 1 64 amount
  | .routeSet => ∃ route branch address retries delay high low posting qualify drop notify,
      payload = [route, branch, address, retries, delay, high, low, posting, qualify, drop, notify] ∧
      number 0 31 route ∧ number 0 3 branch ∧ number 0x08 0x77 address ∧ number 0 3 retries ∧ number 1 255 delay ∧
      two 10 60000 high low ∧ flag posting ∧ number 1 8 qualify ∧ number 1 8 drop ∧ flag notify
  | .routeGet | .routeClear | .holdRelease | .presenceReset => ∃ route, payload = [route] ∧ number 0 31 route
  | .branchSet => ∃ branch enabled speed limit multi, payload = [branch, enabled, speed, limit, multi] ∧
      number 0 3 branch ∧ flag enabled ∧ (speed = 0 ∨ speed = 1) ∧ number 1 255 limit ∧ flag multi
  | .branchGet | .branchReset => ∃ branch, payload = [branch] ∧ number 0 3 branch
  | .xfer => ∃ route op urgent posted probe count data reads,
      payload = [route, op, urgent, posted, probe, count] ++ data ++ [reads] ∧
      number 0 31 route ∧ flag urgent ∧ flag posted ∧ flag probe ∧ list 0 32 count data ∧ number 0 32 reads ∧
      (op = 0 ∧ reads = 0 ∨ op = 1 ∧ data = [] ∧ 1 ≤ reads.toNat ∨ op = 2 ∧ 1 ≤ data.length ∧ 1 ≤ reads.toNat) ∧
      (posted = 1 → op = 0 ∧ 1 ≤ data.length ∧ urgent = 0)
  | .broadcast => ∃ branch urgent count data, payload = [branch, urgent, count] ++ data ∧
      number 0 3 branch ∧ flag urgent ∧ list 1 32 count data
  | .cancel => ∃ target, payload = [target] ∧ number 1 255 target
  | .watchSet => ∃ watch route enabled count lead length high low riseCount rise fallCount fall first,
      payload = [watch, route, enabled, count] ++ lead ++ [length, high, low, riseCount] ++ rise ++ [fallCount] ++ fall ++
        [first] ∧
      number 0 15 watch ∧ number 0 31 route ∧ flag enabled ∧ list 0 2 count lead ∧ number 1 4 length ∧
      two 5 60000 high low ∧ list length.toNat length.toNat riseCount rise ∧
      list length.toNat length.toNat fallCount fall ∧ flag first
  | .watchGet | .watchClear => ∃ watch, payload = [watch] ∧ number 0 15 watch

/-! ### A job on the wires -/

/-- Every job stands in the queue of its BRANCH, no slot is taken twice, and at most 20 host jobs are in the pool
(R58, R64). The pool has 24 slots, so it never holds more than 24 jobs. -/
structure PoolLaw (s : State) : Prop where
  placed : ∀ b : BranchId, ∀ j ∈ (s.branch b).queue, j.branch = b
  slots : (s.jobs.map (·.slot)).Nodup
  share : s.jobs.countP Job.isHost ≤ 20

/-- The engine of branch `b` conducts the job `j` of its queue, as `c` says (R85, R90). -/
structure Conducts (s : State) (b : BranchId) (c : Conduct) (j : Job) : Prop where
  pool : PoolLaw s
  engine : (s.branch b).engine = .active c
  member : j ∈ (s.branch b).queue
  slot : j.slot = c.slot

/-- The engine has gone on to a phase or a byte: it has pulled the clock line low, which clears BUS_FREE (R87, R90), and
the stretch interval of the release that follows runs (R96; log 16). -/
def State.inPhase (s : State) (b : BranchId) (c : Conduct) (p : Phase) : State :=
  s.setBranch b
    { s.branch b with
      lines := ⟨false, (s.branch b).lines.dataHigh⟩
      busFree := false
      engine := .active ⟨c.slot, p, some ⟨s.now, (s.branch b).config.stretchLimit⟩⟩ }

/-- The record of the job in a slot of branch `b` has been changed in its place. -/
def State.withJob (s : State) (b : BranchId) (j : Job) : State :=
  s.setBranch b
    { s.branch b with queue := (s.branch b).queue.map fun i => if i.slot = j.slot then j else i }

/-- The replies that the end of an owed job queues (R73, R74, R78): its own, and a deferred CANCEL reply after it. -/
def endReplies (j : Job) (tag : Byte) (st : Status) : List Frame :=
  (if j.op = .broadcast then ⟨0xA1, tag, [st.code, byte j.ackedWrites, byte j.arbLosses]⟩
    else ⟨0xA0, tag, [st.code, byte j.ackedWrites, byte j.readData.length] ++ j.readData ++
      [byte j.attempts, byte j.arbLosses]⟩) ::
    match j.cancelTag with
    | none => []
    | some cancelTag => [⟨0xA2, cancelTag, [if st = .cancelled then 0x00 else 0x32, tag]⟩]

/-- The first deliveries of a job's end (R73, steps 1 to 4; R54, steps 1 and 2): it has left its queue, its replies are
queued, its route's JOBS has fallen and its presence has taken the outcome; in CLOSING an owed job that ends CANCELLED for
the close is counted (R31). -/
def State.delivered (s : State) (j : Job) (st : Status) : State :=
  let replies := match j.owedTag with
    | none => []
    | some tag => endReplies j tag st
  let counted := if s.session = .closing ∧ j.owedTag ≠ none ∧ j.state = .ending .close ∧ st = .cancelled then 1 else 0
  let t := State.setBranch
    { s with replies := s.replies ++ replies, cancelledJobs := s.cancelledJobs + counted } j.branch
    { s.branch j.branch with queue := (s.branch j.branch).queue.filter fun i => i.slot ≠ j.slot }
  match j.route with
  | none => t
  | some r => (t.setRoute r { s.route r with jobs := (s.route r).jobs - 1 }).presenceOutcome r st j.addressAcked

/-- The ways a job that reached STOPPING ends there, with their statuses (R92, R93, R95, R99, R106). -/
def State.stopEnds (s : State) (j : Job) (why : StopReason) (st : Status) : Prop :=
  why = .completed ∧ st = .ok ∨ why = .dataRefused ∧ st = .nackData ∨ why = .repeatedRefused ∧ st = .nackAddr ∨
    (∃ cause, why = .byteBoundary cause ∧ st = cause.status) ∨
    (∃ at_ cause, why = .firstRefused at_ ∧ j.state = .ending cause ∧ st = cause.status) ∨
    (∃ at_, why = .firstRefused at_ ∧ j.state = .active ∧ st = .nackAddr ∧
      (j.route = none ∨ ∃ r rc, j.route = some r ∧ (s.route r).config = some rc ∧ rc.retries ≤ j.attempts))

/-- The waiting late failure of a route, its route having no job on the wires any more, is carried out in OPEN, and counted
with the jobs merged into it outside OPEN (R127). -/
def State.waitingSettled (s : State) (r : RouteId) : State :=
  match (s.route r).waiting with
  | none => s
  | some w =>
    if s.session = .opened then s.carryOut r w.failed w.merged
    else { s.setRoute r { s.route r with waiting := none } with
      discardedPosts := min (s.discardedPosts + (1 + w.merged.count)) 255 }

/-- The state after an offer that takes no merge (R163, R164, R169). -/
def State.afterOffer (s : State) (body : NoticeBody) : State :=
  if s.session ≠ .opened then s
  else if 16 ≤ s.notices.length then { s with dropped := min (s.dropped + 1) 255 }
  else { s with
    notices := s.notices ++ [⟨s.nextSeq, s.dropped, false, body⟩]
    nextSeq := if s.nextSeq < 65535 then s.nextSeq + 1 else 1
    dropped := 0
    attnLow := decide (s.credits = 0) }

/-- The command makes the recovery `r` of branch `b` fail (R113): by the clock interval of RELEASE, PULSING or STOP, the
ninth pulse with the data line low, or the stuck-line interval of IDLE_WAIT. -/
def State.failsBy (s : State) (b : BranchId) (r : Recovery) (c : Instr) : Prop :=
  c = .recoveryClockIntervalExpires b ∧ r.step ≠ .idleWait ∧ (∃ i, r.clock = some i ∧ i.since + i.limit ≤ s.now) ∨
    c = .recoveryPulseDone b false ∧ r.step = .pulsing ∧ 9 ≤ r.pulses + 1 ∨
    c = .stuckLineIntervalExpires b ∧ r.step = .idleWait ∧
      ∃ x, r.stuck = some x ∧ x.interval.since + x.interval.limit ≤ s.now

/-- The notice queue after an offer that takes no merge, in OPEN or not (R163, R164). -/
def noticesAfterOffer (s : State) (body : NoticeBody) : List Notice :=
  if s.session = .opened ∧ s.notices.length < 16 then s.notices ++ [⟨s.nextSeq, s.dropped, false, body⟩] else s.notices

/-! ### Ranges and payloads of requests (R38, R59, R62, R81, R146, R173) -/

/-- The configuration fields of a route lie in their ranges (R38). -/
structure RouteConfig.InRange (c : RouteConfig) : Prop where
  address : 0x08 ≤ c.address.toNat ∧ c.address.toNat ≤ 0x77
  retries : c.retries ≤ 3
  retryDelay : 1 ≤ c.retryDelay ∧ c.retryDelay ≤ 255
  deadline : 10 ≤ c.deadline ∧ c.deadline ≤ 60000
  qualify : 1 ≤ c.qualify ∧ c.qualify ≤ 8
  drop : 1 ≤ c.drop ∧ c.drop ≤ 8

/-- The configuration fields of a watch lie in their ranges (R146). -/
structure WatchConfig.InRange (c : WatchConfig) : Prop where
  lead : c.lead.length ≤ 2
  length : 1 ≤ c.length ∧ c.length ≤ 4
  period : 5 ≤ c.period ∧ c.period ≤ 60000
  riseMask : c.riseMask.length = c.length
  fallMask : c.fallMask.length = c.length

/-- The fields of an XFER form a legal transfer (R59): a WRITE reads nothing, a READ writes nothing and reads at least one
byte, a WRITE_READ does both, no XFER is a BROADCAST, and a posted one is a WRITE of at least one byte that is not urgent. -/
def XferForm.IsLegal (x : XferForm) : Prop :=
  (x.op = .write ∧ x.readCount = 0 ∨
    x.op = .read ∧ x.writeData = [] ∧ 1 ≤ x.readCount ∨
    x.op = .writeRead ∧ 1 ≤ x.writeData.length ∧ 1 ≤ x.readCount) ∧
  (x.posted = true → x.op = .write ∧ 1 ≤ x.writeData.length ∧ x.urgent = false)

/-- The fields of an XFER lie in their ranges and form a legal transfer (R59). -/
structure XferForm.InRange (x : XferForm) : Prop where
  writeData : x.writeData.length ≤ 32
  readCount : x.readCount ≤ 32
  legal : x.IsLegal

/-- The code of OP (R176). -/
def Op.code : Op → Byte
  | .write => 0
  | .read => 1
  | .writeRead => 2
  | .broadcast => 3

/-- The payload of an XFER (R173). -/
def XferForm.bytes (x : XferForm) : List Byte :=
  [byte x.route.val, x.op.code, flagByte x.urgent, flagByte x.posted, flagByte x.probe] ++ listField x.writeData ++
    [byte x.readCount]

/-- The payload of a BROADCAST (R173). -/
def BroadcastForm.bytes (x : BroadcastForm) : List Byte :=
  [byte x.branch.val, flagByte x.urgent] ++ listField x.writeData

/-- The payload of a BRANCH_SET (R173). -/
def branchSetBytes (b : BranchId) (c : BranchConfig) : List Byte :=
  [byte b.val, flagByte c.enabled, c.speed.code, byte c.stretchLimit, flagByte c.multi]

/-! ### Laws -/

/-- ATTN is low exactly in OPEN with a notice waiting and no credit (R169). -/
def AttnLaw (s : State) : Prop :=
  s.attnLow = true ↔ s.session = .opened ∧ s.notices ≠ [] ∧ s.credits = 0

/-- The notice queue never holds more than 16 notices, and never more than one unsealed CHANGE notice per watch (R161);
credits never exceed 64 (R167); DROPPED and NEXT_SEQ keep their ranges (R162). -/
structure NoticeLaw (s : State) : Prop where
  length : s.notices.length ≤ 16
  oneChange : ∀ w : WatchId, s.notices.countP (Notice.openChangeOf w) ≤ 1
  credits : s.credits ≤ 64
  dropped : s.dropped ≤ 255
  nextSeq : 1 ≤ s.nextSeq ∧ s.nextSeq ≤ 65535

/-- The receive queue holds at most 4 frames (R10), and each link counter at most 65535 (R11). -/
structure LinkLaw (s : State) : Prop where
  rxQueue : s.rxQueue.length ≤ 4
  crcErrors : s.counters.crcErrors ≤ 65535
  gapErrors : s.counters.gapErrors ≤ 65535
  overruns : s.counters.overruns ≤ 65535
  foreignFrames : s.counters.foreignFrames ≤ 65535

/-- No two configured routes share both BRANCH and ADDRESS (R45). -/
def UniqueDevices (s : State) : Prop :=
  ∀ q r : RouteId, ∀ c d : RouteConfig, q ≠ r → (s.route q).config = some c → (s.route r).config = some d →
    ¬ (c.branch = d.branch ∧ c.address = d.address)

/-- Each streak is at most 8, and at most one of the two is above 0 (R136). -/
def StreakLaw (s : State) : Prop :=
  ∀ r : RouteId, (s.route r).goodStreak ≤ 8 ∧ (s.route r).badStreak ≤ 8 ∧
    ((s.route r).goodStreak = 0 ∨ (s.route r).badStreak = 0)

/-- Every configured watch refers to a configured route (R50). -/
def WatchLaw (s : State) : Prop :=
  ∀ w : WatchId, ∀ c : WatchConfig, (s.watch w).config = some c → (s.route c.route).config ≠ none

/-- Outside OPEN no watch is armed, and in CLOSED the pool holds no job (R18). -/
structure SessionLaw (s : State) : Prop where
  armed : s.session ≠ .opened → ∀ w : WatchId, (s.watch w).armed = false
  empty : s.session = .closed → s.jobs = []

/-- Replies waiting and owed together never exceed 32 (R19). -/
def ReplyLaw (s : State) : Prop := s.replies.length + s.owedTags.length ≤ 32

/-- The frame in transmission is the RESTART reply. -/
def State.sendingRestartReply (s : State) : Bool :=
  match s.transmitting with
  | none => false
  | some x => x.frame.isRestartReply

/-- How many RESTART replies wait, are in transmission, or have been reported complete with their effects to come. -/
def State.restartAnswers (s : State) : Nat :=
  s.replies.countP Frame.isRestartReply + s.sendingRestartReply.toNat + s.restartSent.toNat

/-- There is at most one RESTART on its way (R24). From the moment its reply is queued the session is CLOSED, no CLOSE
or RESTART record is pending, and intake is stopped; and while such a record is pending, intake is stopped (R19, R34). -/
structure RestartLaw (s : State) : Prop where
  one : s.restartAnswers ≤ 1
  answered : s.restartAnswers = 1 →
    s.session = .closed ∧ s.intakeStopped = true ∧ s.pendingClose = none ∧ s.pendingRestart = none
  restart : s.pendingRestart ≠ none → s.intakeStopped = true ∧ s.pendingClose = none
  close : s.pendingClose ≠ none → s.intakeStopped = true

/-- The jobs ACTIVE or ENDING of a queue are just the one the engine conducts (R64), and an ACTIVE engine conducts a job
of its queue (R85, R100). -/
structure EngineLaw (s : State) : Prop where
  conducted : ∀ b : BranchId, ∀ j ∈ (s.branch b).queue,
    (j.onWires = true ↔ ∃ c, (s.branch b).engine = .active c ∧ c.slot = j.slot)
  conducts : ∀ b : BranchId, ∀ c : Conduct, (s.branch b).engine = .active c →
    ∃ j ∈ (s.branch b).queue, j.slot = c.slot

end Sys2Proof.Machine
end

