-- ==== Sys2Proof/Certificates/Slice0/Obligations.lean ====
section
/-! DEFINITION. The statements for the provers. Each docstring names the rules of spec/ it rests on. "Answers next" is
the completion of a command: the hypotheses are on the state and the operands alone. -/

open Sys2Proof Sys2Proof.Machine

/-! ### Steps and reset -/

/-- With commands waiting, a step is the meaning of the front command on the state with the queue's rest (00, 95: each
row of the table is one whole step). -/
def Obligations.StepRunsTheFrontCommand : Prop :=
  ∀ (c : Instr) (rest : List Instr) (s : State),
    step { s with pending := c :: rest } = exec c { s with pending := rest }

/-- With no command waiting, one ms passes: the time advances, the countdown of each armed watch falls by one ms and no
lower than 0, and nothing else changes. The model's choice (log 2). -/
def Obligations.EmptyQueueLetsOneMsPass : Prop :=
  ∀ s : State, s.pending = [] →
    ∃ t : State, step s = .next t ∧ t = { s with now := s.now + 1, watches := t.watches } ∧
      ∀ w : WatchId, t.watch w =
        if (s.watch w).armed then { s.watch w with countdown := (s.watch w).countdown - 1 } else s.watch w

/-- Every command answers a next state, in every state (the spec stops the part nowhere), and no command changes the
queue of the commands behind it.
That a command answers next in a state its event cannot arise in is the model's choice (log 1), and so is the queue, which
FULL_RESET keeps (log 22, log 27). -/
def Obligations.EveryCommandAnswersAndKeepsTheQueue : Prop :=
  ∀ (c : Instr) (s : State), ∃ t : State, exec c s = .next t ∧ t.pending = s.pending

/-- The state after full reset (R16, R37, R41, R86, R147, R162), as far as the spec gives it.
FULL_RESET (R16, R37): from any state it leaves the values of full reset, with the speed that LSPD selects and the
line levels it finds; power-on sets the power-on flag and the RESET pin leaves it (R15). Log 24: the time restarts. -/
def Obligations.FullResetValues : Prop :=
  (State.reset.receiver = ⟨.hunt, [], none⟩ ∧ State.reset.rxQueue = [] ∧ State.reset.counters = ⟨0, 0, 0, 0⟩ ∧
    State.reset.replies = [] ∧ State.reset.transmitting = none ∧ State.reset.bootPending = some .fullReset ∧
    State.reset.session = .closed ∧ State.reset.taking = none ∧ State.reset.pendingClose = none ∧
    State.reset.pendingRestart = none ∧ (∀ b : BranchId, State.reset.pendingReset b = none) ∧
    State.reset.intakeStopped = false ∧ State.reset.cancelledJobs = 0 ∧ State.reset.discardedPosts = 0 ∧
    (∀ r : RouteId, State.reset.route r = ⟨none, .unknown, 0, 0, none, 1, 0, none⟩) ∧
    (∀ b : BranchId, (State.reset.branch b).config = ⟨true, .standard, 25, false⟩ ∧
      (State.reset.branch b).engine = .idle ∧ (State.reset.branch b).recoveries = 0 ∧
      (State.reset.branch b).isolations = 0 ∧ (State.reset.branch b).arbLossTotal = 0 ∧
      (State.reset.branch b).busFree = false ∧ (State.reset.branch b).queue = []) ∧
    (∀ w : WatchId, State.reset.watch w = ⟨none, 0, false, 0, none, 0, false⟩) ∧
    State.reset.notices = [] ∧ State.reset.credits = 0 ∧ State.reset.nextSeq = 1 ∧ State.reset.dropped = 0 ∧
    State.reset.attnLow = false) ∧
  (∀ (cause : ResetCause) (lspd : LinkSpeed) (lines : Vector Lines 4) (s : State),
    ∃ t : State, exec (.fullReset cause lspd lines) s = .next t ∧
      t = { State.reset with
        linkSpeed := lspd
        powerOnFlag := t.powerOnFlag
        branches := t.branches
        pending := s.pending } ∧
      (cause = .powerOn → t.powerOnFlag = true) ∧ (cause = .resetPin → t.powerOnFlag = s.powerOnFlag) ∧
      ∀ b : BranchId, t.branch b = ⟨⟨true, .standard, 25, false⟩, .idle, 0, 0, 0, false, lines[b], []⟩)

/-! ### The link -/

/-- A whole request frame crosses the link (R2 to R6, R9): the bytes a frame is sent as, arriving one after another at
a receiver in HUNT, are read as that frame, which joins the tail of the receive queue; the receiver is in HUNT again,
and nothing else has changed. -/
def Obligations.FrameCrossesTheLink : Prop :=
  ∀ (f : Frame) (s : State), f.payload.length ≤ 240 → f.kind.toNat < 0x40 → s.receiver = ⟨.hunt, [], none⟩ →
    s.rxQueue.length < 4 →
    runCommands (arrivals f.wire) s = .next { s with rxQueue := s.rxQueue ++ [f] }

/-- BYTE_ARRIVES in HUNT and LENGTH (R4, R5): in HUNT, 0xC3 is taken as a start and any other byte is passed over; in
LENGTH, 2 to 242 is held and begins BODY, and any other value returns to HUNT with no counter moved.
A break is delivered as one byte 0x00, and the level of a stop bit changes nothing (R1). A byte that arrives more than 6 ms
after the last byte of the frame in progress finds that frame abandoned and counted, and is examined in HUNT (R7). That a byte
more than 5 and no more than 6 ms after it continues the frame, where R7 allows both, is the model's: the expiry is a command
of its own (log 3). -/
def Obligations.HuntAndLengthBytes : Prop :=
  (∀ (b : Byte) (stop : Bool) (s : State),
    (s.receiver = ⟨.hunt, [], none⟩ → b = 0xC3 →
      exec (.byteArrives (.char b stop)) s = .next { s with receiver := ⟨.length, [], some s.now⟩ }) ∧
    (s.receiver = ⟨.hunt, [], none⟩ → b ≠ 0xC3 → exec (.byteArrives (.char b stop)) s = .next s) ∧
    (∀ g : Nat, s.receiver = ⟨.length, [], some g⟩ → s.now ≤ g + 6 → 2 ≤ b.toNat → b.toNat ≤ 242 →
      exec (.byteArrives (.char b stop)) s = .next { s with receiver := ⟨.body, [b], some s.now⟩ }) ∧
    (∀ g : Nat, s.receiver = ⟨.length, [], some g⟩ → s.now ≤ g + 6 → (b.toNat < 2 ∨ 242 < b.toNat) →
      exec (.byteArrives (.char b stop)) s = .next { s with receiver := ⟨.hunt, [], none⟩ })) ∧
  (∀ s : State, exec (.byteArrives .lineBreak) s = exec (.byteArrives (.char 0x00 true)) s) ∧
  (∀ (c : LineChar) (g : Nat) (s : State), s.receiver.gap = some g → g + 6 < s.now →
    exec (.byteArrives c) s = exec (.byteArrives c) { s with
      receiver := ⟨.hunt, [], none⟩
      counters := { s.counters with gapErrors := min (s.counters.gapErrors + 1) 65535 } })

/-- The last byte of a good frame (R6, R9, R11): a foreign frame is counted and discarded, whether or not the queue has
room; a request that finds 4 frames waiting is an overrun; any other joins the tail.
The last byte of a frame that fails its check (R8): CRC_ERRORS counts it, and every byte held after its start byte, the last
one included, is examined again from HUNT, in order, just as if it arrived from the line. So, with no 0xC3 among them, they
are all passed over. The last byte comes no more than 6 ms after the one before it (R7, log 3). -/
def Obligations.JudgedFrame : Prop :=
  (∀ (f : Frame) (last : Byte) (held : List Byte) (g : Nat) (s : State),
    f.payload.length ≤ 240 → f.wire = 0xC3 :: held ++ [last] → s.receiver = ⟨.check, held, some g⟩ → s.now ≤ g + 6 →
    exec (.byteArrives (.char last true)) s = .next
      (if 0x40 ≤ f.kind.toNat then
        { s with
          receiver := ⟨.hunt, [], none⟩
          counters := { s.counters with foreignFrames := min (s.counters.foreignFrames + 1) 65535 } }
      else if 4 ≤ s.rxQueue.length then
        { s with
          receiver := ⟨.hunt, [], none⟩
          counters := { s.counters with overruns := min (s.counters.overruns + 1) 65535 } }
      else { s with receiver := ⟨.hunt, [], none⟩, rxQueue := s.rxQueue ++ [f] })) ∧
  (∀ (n last : Byte) (body : List Byte) (high : Byte) (g : Nat) (s : State),
    2 ≤ n.toNat → n.toNat ≤ 242 → body.length = n.toNat → s.receiver = ⟨.check, n :: body ++ [high], some g⟩ →
    s.now ≤ g + 6 → [high, last] ≠ checkBytes (n :: body) →
    let failed : State := { s with
      receiver := ⟨.hunt, [], none⟩
      counters := { s.counters with crcErrors := min (s.counters.crcErrors + 1) 65535 } }
    exec (.byteArrives (.char last true)) s = runCommands (arrivals (n :: body ++ [high, last])) failed ∧
    (0xC3 ∉ n :: body ++ [high, last] → exec (.byteArrives (.char last true)) s = .next failed))

/-- GAP_INTERVAL_EXPIRES (R7): more than 5 ms after the last byte the frame in progress is abandoned and counted; at 5 ms or
less, and where no interval runs, nothing changes.
The two cases that change nothing are the model's choice (log 1, log 3). -/
def Obligations.GapExpiryAbandonsTheFrame : Prop :=
  ∀ s : State,
    (∀ since, s.receiver.gap = some since → since + 5 < s.now →
      exec .gapIntervalExpires s = .next { s with
        receiver := ⟨.hunt, [], none⟩
        counters := { s.counters with gapErrors := min (s.counters.gapErrors + 1) 65535 } }) ∧
    (∀ since, s.receiver.gap = some since → s.now ≤ since + 5 → exec .gapIntervalExpires s = .next s) ∧
    (s.receiver.gap = none → exec .gapIntervalExpires s = .next s)

/-- TRANSMIT_START (R13 to R15, R167): the idle transmitter starts the pending announcement, with CAUSE by what made it
pending and by the power-on flag, which it clears; else the head reply; else,
in OPEN against one credit, the head notice; else it stays idle. ATTN follows. While a frame is in transmission nothing
starts: it is sent to its end (R13).
The frame of each notice (R175), and the codes of R176. -/
def Obligations.TransmitterChoosesInOrder : Prop :=
  (∀ (s : State) (x : Transmission), s.transmitting = some x → exec .transmitStart s = .next s) ∧
  (∀ s : State, s.transmitting = none →
    (∀ o, s.bootPending = some o →
      exec .transmitStart s = .next { s with
        bootPending := none
        powerOnFlag := s.powerOnFlag && o == .restartEffects
        transmitting := some (Frame.sent ⟨0x7F, 0,
          [match o with
            | .restartEffects => 2
            | .fullReset => if s.powerOnFlag then 0 else 1,
            0x04, 0x16, 0x03, if s.linkSpeed = .baud115200 then 0 else 1]⟩) }) ∧
    (∀ f rest, s.bootPending = none → s.replies = f :: rest →
      exec .transmitStart s = .next { s with replies := rest, transmitting := some ⟨f, f.wire⟩ }) ∧
    (∀ n rest, s.bootPending = none → s.replies = [] → s.notices = n :: rest → s.session = .opened → 1 ≤ s.credits →
      exec .transmitStart s = .next { s with
        notices := rest
        credits := s.credits - 1
        attnLow := decide (rest ≠ [] ∧ s.credits = 1)
        transmitting := some ⟨n.frame, n.frame.wire⟩ }) ∧
    (s.bootPending = none → s.replies = [] → (s.notices = [] ∨ s.session ≠ .opened ∨ s.credits = 0) →
      exec .transmitStart s = .next s)) ∧
  (∀ (seq dropped : Nat) (sealed : Bool),
    let head := fun (kind : Byte) (rest : List Byte) =>
      (⟨kind, 0, [BitVec.ofNat 8 (seq / 256), BitVec.ofNat 8 seq, BitVec.ofNat 8 dropped] ++ rest⟩ : Frame)
    let two := fun n : Nat => [BitVec.ofNat 8 (n / 256), BitVec.ofNat 8 n]
    (∀ x : ChangeBody, Notice.frame ⟨seq, dropped, sealed, .change x⟩ = head 0x40
      ([byte x.watch.val, byte x.generation, byte x.route.val, byte x.new.length] ++
        (match x.old with
          | none => [0]
          | some old => 1 :: old) ++ x.new ++ x.changed ++ [byte x.merges, byte x.missed])) ∧
    (∀ (r : RouteId) (f : FailedPost) (n : Nat), Notice.frame ⟨seq, dropped, sealed, .lateFault r f ⟨n, none⟩⟩ =
      head 0x41 ([byte r.val, f.tag] ++ two f.post ++ [f.status.code, byte f.ackedWrites, byte n, 0, 0])) ∧
    (∀ (r : RouteId) (f : FailedPost) (n first last : Nat),
      Notice.frame ⟨seq, dropped, sealed, .lateFault r f ⟨n, some (first, last)⟩⟩ = head 0x41
        ([byte r.val, f.tag] ++ two f.post ++ [f.status.code, byte f.ackedWrites, byte n, 1] ++ two first ++ [1] ++
          two last)) ∧
    (∀ (r : RouteId) (old new : Presence), Notice.frame ⟨seq, dropped, sealed, .presence r old new none⟩ =
      head 0x42 [byte r.val, old.code, new.code, 0]) ∧
    (∀ (r : RouteId) (old new : Presence) (st : Status),
      Notice.frame ⟨seq, dropped, sealed, .presence r old new (some st)⟩ =
        head 0x42 [byte r.val, old.code, new.code, 1, st.code]) ∧
    (∀ (b : BranchId) (event : BranchEvent) (cause : Status) (failed : Nat),
      Notice.frame ⟨seq, dropped, sealed, .branch b event cause failed⟩ =
        head 0x43 [byte b.val, if event = .recovered then 0 else 1, cause.code, byte failed])) ∧
  ([Status.ok, .posted, .badKind, .badForm, .noSession, .sessionOpen, .tagInUse, .busy, .badRoute, .routeHeld, .routeInUse,
      .duplicate, .absent, .notHeld, .branchDown, .branchBusy, .watchBusy, .notFound, .cancelPending, .tooLate, .nackAddr,
      .nackData, .arbLost, .arbLostData, .busFault, .stretchTimeout, .cancelled, .deadline].map Status.code =
    [0x00, 0x01, 0x10, 0x11, 0x12, 0x13, 0x14, 0x15, 0x20, 0x21, 0x22, 0x23, 0x24, 0x25, 0x28, 0x29, 0x2C, 0x30, 0x31,
      0x32, 0x40, 0x41, 0x42, 0x43, 0x44, 0x45, 0x46, 0x47] ∧
    [Presence.unknown, .present, .suspect, .absent].map Presence.code = [0, 1, 2, 3] ∧
    [BranchSpeed.standard, .fast].map BranchSpeed.code = [0, 1] ∧
    ∀ (stuck : Option Stuck) (c : Conduct) (r : Recovery),
      [Engine.off, .idle, .waitFree stuck, .active c, .recovering r, .isolated].map Engine.code = [0, 1, 2, 3, 4, 5])

/-- FRAME_TRANSMITTED and RESTART_EFFECTS (R14, R17, R35, R42, R86, R147, R170): the end of the RESTART reply is
reported, and the effects then follow, with every branch queue empty as R42 has it: configuration is kept, state starts
afresh, and the boot announcement is pending. Any other frame's end reports nothing, and without the report the
effects do not come. The RESTART reply is the frame of KIND 0x84 with status OK alone (R34, R174).
That the effects are a step of their own, and what they leave as it is, the levels of the lines among it, is the model's (log 8,
log 20, log 31). -/
def Obligations.RestartEffectsFollowTheReply : Prop :=
  (∀ (x : Transmission) (s : State), s.transmitting = some x →
    exec .frameTransmitted s =
      .next { s with transmitting := none, restartSent := s.restartSent || x.frame.isRestartReply }) ∧
  (∀ f : Frame, f.isRestartReply = true ↔ f.kind = 0x84 ∧ f.payload = [0x00]) ∧
  (∀ s : State, s.restartSent = false → exec .restartEffects s = .next s) ∧
  (∀ s : State, s.restartSent = true → (∀ b : BranchId, (s.branch b).queue = []) →
    ∃ t : State, exec .restartEffects s = .next t ∧
      t = { s with
        receiver := ⟨.hunt, [], none⟩
        rxQueue := []
        counters := ⟨0, 0, 0, 0⟩
        bootPending := some .restartEffects
        session := .closed
        taking := none
        pendingClose := none
        pendingRestart := none
        pendingResets := t.pendingResets
        intakeStopped := false
        restartSent := false
        cancelledJobs := 0
        discardedPosts := 0
        routes := t.routes
        branches := t.branches
        watches := t.watches
        notices := []
        credits := 0
        dropped := 0
        attnLow := false } ∧
      (∀ b : BranchId, t.pendingReset b = none) ∧
      (∀ r : RouteId, t.route r =
        ⟨(s.route r).config, .unknown, 0, 0, none, 1, (s.route r).jobs, none⟩) ∧
      (∀ b : BranchId, t.branch b = { s.branch b with
        engine := if (s.branch b).config.enabled then .idle else .off
        recoveries := 0
        isolations := 0
        arbLossTotal := 0 }) ∧
      (∀ w : WatchId, t.watch w =
        ⟨(s.watch w).config, (s.watch w).generation, false, 0, none, 0, false⟩))

/-! ### Requests and the session -/

/-- The general checks, in their order (R20 to R23, R25): TAG 0 is refused BAD_FORM; then a kind the session does not
allow is refused NO_SESSION or SESSION_OPEN; then a payload not of the kind's form (`Kind.HasForm`: a field out of its
range, a count that disagrees with the bytes, bytes left over, an illegal transfer) is refused BAD_FORM; then, for the kinds
whose reply may be owed, a TAG that an owed reply carries is refused TAG_IN_USE. Each refusal is one reply with the status
alone, and has no other effect.
REQUEST_OF_UNKNOWN_KIND (R21): a KIND below 0x40 that is none of the twenty codes is refused BAD_KIND, with the request's
TAG even when it is 0. -/
def Obligations.GeneralChecksRefuseInOrder : Prop :=
  (∀ (c : Instr) (k : Kind) (f : Frame) (rest : List Frame) (s : State),
    requestKind c = some k → ReadyToTake s f rest → f.kind = k.code →
    (f.tag = 0 → exec c s = .next (s.afterReply rest ⟨f.kind + 0x80, 0, [0x11]⟩)) ∧
    (f.tag ≠ 0 → s.session = .closed → k ≠ .hello → k ≠ .openSession → k ≠ .restart → k ≠ .status →
      exec c s = .next (s.afterReply rest ⟨f.kind + 0x80, f.tag, [0x12]⟩)) ∧
    (f.tag ≠ 0 → s.session = .opened → k = .openSession →
      exec c s = .next (s.afterReply rest ⟨f.kind + 0x80, f.tag, [0x13]⟩)) ∧
    (f.tag ≠ 0 → (s.session = .closed → k = .hello ∨ k = .openSession ∨ k = .restart ∨ k = .status) →
      (s.session = .opened → k ≠ .openSession) → ¬ k.HasForm f.payload →
      exec c s = .next (s.afterReply rest ⟨f.kind + 0x80, f.tag, [0x11]⟩)) ∧
    (f.tag ≠ 0 → (s.session = .closed → k = .restart) → k.HasForm f.payload →
      k ∈ [Kind.xfer, .broadcast, .cancel, .close, .restart, .branchReset] → f.tag ∈ s.owedTags →
      exec c s = .next (s.afterReply rest ⟨f.kind + 0x80, f.tag, [0x14]⟩))) ∧
  (∀ (f : Frame) (rest : List Frame) (s : State), ReadyToTake s f rest → f.kind.toNat < 0x40 →
    f.kind ∉ ([0x01, 0x02, 0x03, 0x04, 0x05, 0x06, 0x10, 0x11, 0x12, 0x13, 0x14, 0x18, 0x19, 0x1A, 0x20, 0x21, 0x22,
      0x28, 0x29, 0x2A] : List Byte) →
    exec .requestOfUnknownKind s = .next (s.afterReply rest ⟨f.kind + 0x80, f.tag, [0x10]⟩))

/-- A request waits (R18, R19): with the queue empty, with a CLOSE or RESTART in progress, in CLOSING, or with 32 replies
waiting and owed, no request command does anything.
That the frame then waits is R19's; that a request command given meanwhile changes nothing is the model's choice (log 1). -/
def Obligations.ClosedIntakeTakesNothing : Prop :=
  ∀ (c : Instr) (s : State), (requestKind c ≠ none ∨ c = .requestOfUnknownKind) →
    (s.rxQueue = [] ∨ s.intakeStopped = true ∨ s.session = .closing ∨
      32 ≤ s.replies.length + s.owedTags.length) →
    exec c s = .next s

/-- HELLO (R27): its reply carries the identity of the part, and nothing else changes. -/
def Obligations.HelloReportsTheIdentity : Prop :=
  ∀ (f : Frame) (rest : List Frame) (s : State), Asks s f rest .hello → f.payload = [] →
    exec .hello s = .next (s.afterReply rest ⟨0x81, f.tag,
      [0x00, 0x4C, 0x42, 0x04, 0x16, 0x03, 32, 16, 24, 20, 16, 64, 4, 32,
        if s.linkSpeed = .baud115200 then 0 else 1]⟩)

/-- STATUS (R36, R11): the values held at the take, with one HELD flag per route, route n being bit n of the four bytes
read as one number; with CLEAR 1 the link counters are then 0. Nothing else changes. -/
def Obligations.StatusReportsTheTake : Prop :=
  ∀ (f : Frame) (rest : List Frame) (clear : Byte) (s : State), Asks s f rest .status → f.payload = [clear] →
    (clear = 0 ∨ clear = 1) →
    ∃ held : Nat, held < 2 ^ 32 ∧ (∀ r : RouteId, held.testBit r.val = (s.route r).hold.isSome) ∧
      exec .status s = .next { s.afterReply rest ⟨0x85, f.tag,
          [0x00, if s.session = .opened then 1 else 0, byte s.credits, byte s.notices.length, byte s.dropped,
            byte s.replies.length, byte s.owedTags.length, byte (s.jobs.countP Job.isHost),
            byte (s.jobs.countP Job.isPoll)] ++
          bytes16 (held / 65536) ++ bytes16 (held % 65536) ++
          ((List.finRange 4).flatMap fun b => [(s.branch b).engine.code, byte (s.branch b).queue.length]) ++
          bytes16 s.counters.crcErrors ++ bytes16 s.counters.gapErrors ++ bytes16 s.counters.overruns ++
          bytes16 s.counters.foreignFrames⟩ with
        counters := if clear = 1 then ⟨0, 0, 0, 0⟩ else s.counters }

/-- OPEN (R28, R147, R148, R171): the session is OPEN with the CREDITS asked for, SEQ starts at 1, DROPPED is 0, every
watch configured with ENABLED yes is armed with its PERIOD and no other is, and every LAST_VALUE is absent. -/
def Obligations.OpenStartsASession : Prop :=
  ∀ (f : Frame) (rest : List Frame) (credits : Byte) (s : State), Asks s f rest .openSession → s.session = .closed →
    f.payload = [credits] → credits.toNat ≤ 64 →
    ∃ t : State, exec .openSession s = .next t ∧
      t = { s.afterReply rest ⟨0x82, f.tag, [0x00, credits]⟩ with
        session := .opened
        credits := credits.toNat
        nextSeq := 1
        dropped := 0
        watches := t.watches
        attnLow := decide (s.notices ≠ [] ∧ credits = 0) } ∧
      (∀ w : WatchId, ∀ c, (s.watch w).config = some c → c.enabled = true →
        t.watch w = { s.watch w with armed := true, countdown := c.period, lastValue := none }) ∧
      (∀ w : WatchId, (∀ c, (s.watch w).config = some c → c.enabled = false) →
        t.watch w = { s.watch w with armed := false, countdown := 0, lastValue := none })

/-- CLOSE with an empty pool and no reply owed (R29, R32, R33, R147): the procedure completes in the same step. Notices,
credits, holds and LAST_VALUEs are gone, no watch is armed, and the CLOSE reply counts nothing.
CLOSE_PROCEDURE_COMPLETES (R32 to R34): in CLOSING, with the pool empty and no BRANCH_RESET reply owed, the CLOSE
reply carries the two counts and intake resumes, or the RESTART reply is queued and intake stays stopped; while a job or
a BRANCH_RESET reply remains, or outside CLOSING, nothing happens (log 1, log 7). -/
def Obligations.CloseCompletes : Prop :=
  (∀ (f : Frame) (rest : List Frame) (boundary : List BranchId) (s : State), AsksOpen s f rest .close →
    f.payload = [] → s.jobs = [] → (∀ b : BranchId, s.pendingReset b = none) → s.pendingRestart = none →
    ∃ t : State, exec (.closeSession boundary) s = .next t ∧
      t = { s.afterReply rest ⟨0x83, f.tag, [0x00, 0, 0]⟩ with
        session := .closed
        pendingClose := none
        cancelledJobs := 0
        discardedPosts := 0
        notices := []
        credits := 0
        dropped := 0
        attnLow := false
        routes := t.routes
        watches := t.watches } ∧
      (∀ r : RouteId, t.route r = { s.route r with hold := none }) ∧
      (∀ w : WatchId, t.watch w = { s.watch w with armed := false, countdown := 0, lastValue := none })) ∧
  (∀ s : State,
    (∀ tag, s.session = .closing → s.jobs = [] → (∀ b : BranchId, s.pendingReset b = none) →
      s.pendingClose = some tag → s.pendingRestart = none →
      ∃ t : State, exec .closeProcedureCompletes s = .next t ∧
        t = { s with
          session := .closed
          intakeStopped := false
          pendingClose := none
          replies := s.replies ++ [⟨0x83, tag, [0x00, byte s.cancelledJobs, byte s.discardedPosts]⟩]
          notices := []
          credits := 0
          dropped := 0
          attnLow := false
          routes := t.routes
          watches := t.watches } ∧
        (∀ r : RouteId, t.route r = { s.route r with hold := none }) ∧
        (∀ w : WatchId, t.watch w = { s.watch w with lastValue := none })) ∧
    (∀ tag, s.session = .closing → s.jobs = [] → (∀ b : BranchId, s.pendingReset b = none) →
      s.pendingClose = none → s.pendingRestart = some tag →
      ∃ t : State, exec .closeProcedureCompletes s = .next t ∧
        t = { s with
          session := .closed
          pendingRestart := none
          replies := s.replies ++ [⟨0x84, tag, [0x00]⟩]
          notices := []
          credits := 0
          dropped := 0
          attnLow := false
          routes := t.routes
          watches := t.watches } ∧
        (∀ r : RouteId, t.route r = { s.route r with hold := none }) ∧
        (∀ w : WatchId, t.watch w = { s.watch w with lastValue := none })) ∧
    ((s.session ≠ .closing ∨ s.jobs ≠ [] ∨ ∃ b : BranchId, s.pendingReset b ≠ none) →
      exec .closeProcedureCompletes s = .next s))

/-- CLOSE or RESTART taken in OPEN (R29 to R32, R34, R98). The session is CLOSING with the reply owed and intake stopped;
ATTN is released while notices and credits stay; no watch is armed. The jobs that wait leave the pool: owed jobs end
CANCELLED, with their replies in the order of the branch queues, and are counted in CANCELLED_JOBS; posted jobs are counted in
DISCARDED_POSTS; polls go silently, with POLL_OUT cleared; and each one's route has its JOBS lowered. Of the pool the jobs on
the wires alone remain, each ENDING: with cause CLOSE if it was ACTIVE, when its engine, if named at a byte boundary, does
what it does there (log 12). So it stays while such a job, or a BRANCH_RESET reply, remains. If neither remains, the
procedure completes in the same step. -/
def Obligations.CloseAndRestartClearTheQueues : Prop :=
  ∀ (c : Instr) (k : Kind) (boundary : List BranchId) (f : Frame) (rest : List Frame) (s : State),
    (c = .closeSession boundary ∧ k = .close ∨ c = .restart boundary ∧ k = .restart) → AsksOpen s f rest k →
    f.payload = [] → PoolLaw s → (∀ j ∈ s.jobs, j.onWires = false → j.cancelTag = none) →
    let waiting := s.jobs.filter fun j => !j.onWires
    let cancelled := waiting.countP fun j => j.owedTag.isSome
    let discarded := waiting.countP fun j => j.isHost && j.post.isSome
    let endings := waiting.flatMap fun j => match j.owedTag with
      | none => []
      | some tag => endReplies j.withoutProgress tag .cancelled
    ∃ t : State,
      t = { s with
        rxQueue := rest
        session := .closing
        intakeStopped := true
        pendingClose := if k = .close then some f.tag else s.pendingClose
        pendingRestart := if k = .restart then some f.tag else s.pendingRestart
        replies := s.replies ++ endings
        cancelledJobs := cancelled
        discardedPosts := discarded
        attnLow := false
        routes := t.routes
        branches := t.branches
        watches := t.watches } ∧
      (∀ w : WatchId, t.watch w = { s.watch w with
        armed := false
        countdown := 0
        pollOut := (s.watch w).pollOut && !waiting.any fun j => decide (j.origin = .watch w) }) ∧
      (∀ r : RouteId, t.route r =
        { s.route r with jobs := (s.route r).jobs - waiting.countP fun j => decide (j.route = some r) }) ∧
      (∀ b : BranchId, t.branch b = { s.branch b with
        queue := ((s.branch b).queue.filter Job.onWires).map fun j =>
          if j.state = .active then { j with state := .ending .close } else j
        engine := match (s.branch b).engine with
          | .active x =>
            if ∃ j ∈ (s.branch b).queue, j.slot = x.slot ∧ j.state = .active then
              (Engine.active x).onEnding x.slot .close (boundary.contains b)
            else .active x
          | e => e }) ∧
      (((∃ j ∈ s.jobs, j.onWires = true) ∨ ∃ b : BranchId, s.pendingReset b ≠ none) → exec c s = .next t) ∧
      ((∀ j ∈ s.jobs, j.onWires = false) → (∀ b : BranchId, s.pendingReset b = none) →
        (k = .close → s.pendingRestart = none) → (k = .restart → s.pendingClose = none) →
        exec c s = exec .closeProcedureCompletes t ∧
        ∃ u : State, exec c s = .next u ∧ u.session = .closed ∧ u.jobs = [] ∧
          u.intakeStopped = decide (k = .restart) ∧
          u.replies = s.replies ++ endings ++
            [if k = .close then ⟨0x83, f.tag, [0x00, byte cancelled, byte discarded]⟩ else ⟨0x84, f.tag, [0x00]⟩])

/-- RESTART taken with nothing to settle (R34): in CLOSED its reply is queued in the same step; in OPEN with an empty
pool and no reply owed the close procedure completes in that step too. Intake stops until the restart effects. -/
def Obligations.RestartWithNothingToSettle : Prop :=
  ∀ (f : Frame) (rest : List Frame) (boundary : List BranchId) (s : State), Asks s f rest .restart →
    f.payload = [] → f.tag ∉ s.owedTags →
    (s.session = .closed →
      exec (.restart boundary) s = .next { s.afterReply rest ⟨0x84, f.tag, [0x00]⟩ with
        intakeStopped := true
        pendingRestart := none }) ∧
    (s.session = .opened → s.jobs = [] → (∀ b : BranchId, s.pendingReset b = none) → s.pendingClose = none →
      ∃ t : State, exec (.restart boundary) s = .next t ∧
        t = { s.afterReply rest ⟨0x84, f.tag, [0x00]⟩ with
          session := .closed
          intakeStopped := true
          pendingRestart := none
          cancelledJobs := 0
          discardedPosts := 0
          notices := []
          credits := 0
          dropped := 0
          attnLow := false
          routes := t.routes
          watches := t.watches } ∧
        (∀ r : RouteId, t.route r = { s.route r with hold := none }) ∧
        (∀ w : WatchId, t.watch w = { s.watch w with armed := false, countdown := 0, lastValue := none }))

/-- CREDIT (R168, R169): the credits rise by AMOUNT and stop at 64, the reply carries them, and ATTN is released. Outside
OPEN the request is refused NO_SESSION; a payload that is not one byte, 1 to 64, is refused BAD_FORM. -/
def Obligations.CreditAddsUpTo64 : Prop :=
  ∀ (f : Frame) (rest : List Frame) (s : State), Asks s f rest .credit →
    (∀ amount : Byte, s.session = .opened → f.payload = [amount] → 1 ≤ amount.toNat → amount.toNat ≤ 64 →
      exec .credit s = .next { s.afterReply rest ⟨0x86, f.tag, [0x00, byte (min (s.credits + amount.toNat) 64)]⟩ with
        credits := min (s.credits + amount.toNat) 64
        attnLow := false }) ∧
    (s.session = .closed → exec .credit s = .next (s.afterReply rest ⟨0x86, f.tag, [0x12]⟩)) ∧
    (s.session = .opened → (∀ amount : Byte, f.payload = [amount] → amount = 0 ∨ 64 < amount.toNat) →
      exec .credit s = .next (s.afterReply rest ⟨0x86, f.tag, [0x11]⟩))

/-! ### Routes and presence -/

/-- ROUTE_SET refused (R44, R45): ROUTE_HELD if the route is held, else ROUTE_IN_USE if it has jobs, else DUPLICATE if
another configured route has the BRANCH and ADDRESS. The refusal changes nothing else.
ROUTE_SET accepted (R43, R46, R47): the configuration is stored whole, the judgement and the post numbers start
afresh; each watch referring to the route forgets its value and its waiting CHANGE notice is sealed; the reply says
whether the route was configured before and how many watches refer to it. -/
def Obligations.RouteSet : Prop :=
  (∀ (f : Frame) (rest : List Frame) (r : RouteId) (c : RouteConfig) (s : State), Asks s f rest .routeSet →
    s.session = .opened → c.InRange → f.payload = byte r.val :: c.bytes →
    ((s.route r).hold ≠ none → exec .routeSet s = .next (s.afterReply rest ⟨0x90, f.tag, [0x21]⟩)) ∧
    ((s.route r).hold = none → 0 < (s.route r).jobs →
      exec .routeSet s = .next (s.afterReply rest ⟨0x90, f.tag, [0x22]⟩)) ∧
    ((s.route r).hold = none → (s.route r).jobs = 0 →
      (∃ q : RouteId, q ≠ r ∧ ∃ d, (s.route q).config = some d ∧ d.branch = c.branch ∧ d.address = c.address) →
      exec .routeSet s = .next (s.afterReply rest ⟨0x90, f.tag, [0x23]⟩))) ∧
  (∀ (f : Frame) (rest : List Frame) (r : RouteId) (c : RouteConfig) (s : State), Asks s f rest .routeSet →
    s.session = .opened → c.InRange → f.payload = byte r.val :: c.bytes →
    (s.route r).hold = none → (s.route r).jobs = 0 →
    (∀ q : RouteId, q ≠ r → ∀ d, (s.route q).config = some d → ¬ (d.branch = c.branch ∧ d.address = c.address)) →
    ∃ t : State, exec .routeSet s = .next t ∧
      t = { s.afterReply rest ⟨0x90, f.tag,
          [0x00, byte r.val, flagByte (s.route r).config.isSome,
            byte ((List.finRange 16).countP fun w => (s.watch w).refersTo r)]⟩ with
        routes := t.routes
        watches := t.watches
        notices := t.notices } ∧
      (∀ q : RouteId, t.route q = if q = r then
          { s.route r with config := some c, presence := .unknown, goodStreak := 0, badStreak := 0, nextPost := 1 }
        else s.route q) ∧
      (∀ w : WatchId, t.watch w =
        if (s.watch w).refersTo r then { s.watch w with lastValue := none } else s.watch w) ∧
      t.notices = s.notices.map fun n => match n.body with
        | .change x => if (s.watch x.watch).refersTo r then { n with sealed := true } else n
        | _ => n)

/-- ROUTE_GET, BRANCH_GET and WATCH_GET (R49, R84, R153) report what the record holds at the take, and change
nothing. The masks of a WATCH_GET reply are lists with count bytes by log 30. -/
def Obligations.GetsReportTheRecord : Prop :=
  ∀ (f : Frame) (rest : List Frame) (s : State), s.session = .opened →
    (∀ r : RouteId, Asks s f rest .routeGet → f.payload = [byte r.val] →
      exec .routeGet s = .next (s.afterReply rest ⟨0x91, f.tag,
        [0x00, byte r.val] ++ (match (s.route r).config with
          | none => [0]
          | some c => 1 :: c.bytes) ++
        [(s.route r).presence.code, byte (s.route r).goodStreak, byte (s.route r).badStreak] ++
        (match (s.route r).hold with
          | none => [0, 0]
          | some h => [1, 1] ++ bytes16 h.failedPost ++ [h.failedStatus.code, byte h.discarded]) ++
        bytes16 (s.route r).nextPost ++
        [byte (s.route r).jobs, byte ((List.finRange 16).countP fun w => (s.watch w).refersTo r)]⟩)) ∧
    (∀ b : BranchId, Asks s f rest .branchGet → f.payload = [byte b.val] →
      exec .branchGet s = .next (s.afterReply rest ⟨0x99, f.tag,
        [0x00, byte b.val] ++ (branchSetBytes b (s.branch b).config).tail ++
        [(s.branch b).engine.code, byte (s.branch b).queue.length] ++ bytes16 (s.branch b).recoveries ++
        bytes16 (s.branch b).isolations ++ bytes16 (s.branch b).arbLossTotal⟩)) ∧
    (∀ w : WatchId, Asks s f rest .watchGet → f.payload = [byte w.val] →
      exec .watchGet s = .next (s.afterReply rest ⟨0xA9, f.tag,
        [0x00, byte w.val] ++ (match (s.watch w).config with
          | none => [0]
          | some c => 1 :: c.bytes) ++
        [byte (s.watch w).generation, flagByte (s.watch w).armed] ++ bytes16 (s.watch w).countdown ++
        (match (s.watch w).lastValue with
          | none => [0]
          | some v => 1 :: v) ++
        [byte (s.watch w).missed, flagByte (s.watch w).pollOut]⟩))

/-- ROUTE_CLEAR (R50, R51): refused ROUTE_HELD, else ROUTE_IN_USE with a job or a referring watch, else BAD_ROUTE for a
free route; accepted, the route is free, with its state at the values of full reset.
HOLD_RELEASE (R129): a held route is released and its HOLD_RECORD reported, and no other field of it changes; a
route that is not held is refused NOT_HELD. -/
def Obligations.RouteClearAndHoldRelease : Prop :=
  (∀ (f : Frame) (rest : List Frame) (r : RouteId) (s : State), Asks s f rest .routeClear → s.session = .opened →
    f.payload = [byte r.val] →
    ((s.route r).hold ≠ none → exec .routeClear s = .next (s.afterReply rest ⟨0x92, f.tag, [0x21]⟩)) ∧
    ((s.route r).hold = none → (0 < (s.route r).jobs ∨ ∃ w : WatchId, (s.watch w).refersTo r = true) →
      exec .routeClear s = .next (s.afterReply rest ⟨0x92, f.tag, [0x22]⟩)) ∧
    ((s.route r).hold = none → (s.route r).jobs = 0 → (∀ w : WatchId, (s.watch w).refersTo r = false) →
      (s.route r).config = none → exec .routeClear s = .next (s.afterReply rest ⟨0x92, f.tag, [0x20]⟩)) ∧
    ((s.route r).hold = none → (s.route r).jobs = 0 → (∀ w : WatchId, (s.watch w).refersTo r = false) →
      (s.route r).config ≠ none →
      exec .routeClear s = .next ((s.afterReply rest ⟨0x92, f.tag, [0x00, byte r.val]⟩).setRoute r
        ⟨none, .unknown, 0, 0, none, 1, 0, (s.route r).waiting⟩))) ∧
  (∀ (f : Frame) (rest : List Frame) (r : RouteId) (s : State), Asks s f rest .holdRelease → s.session = .opened →
    f.payload = [byte r.val] →
    (∀ h, (s.route r).hold = some h →
      exec .holdRelease s = .next ((s.afterReply rest ⟨0x93, f.tag,
        [0x00, byte r.val] ++ bytes16 h.failedPost ++ [h.failedStatus.code, byte h.discarded]⟩).setRoute r
          { s.route r with hold := none })) ∧
    ((s.route r).hold = none → exec .holdRelease s = .next (s.afterReply rest ⟨0x93, f.tag, [0x25]⟩)))

/-- PRESENCE_RESET (R139, R141, R142): a free route is refused BAD_ROUTE. Otherwise the judgement is UNKNOWN with both
streaks 0 and the reply carries the PRESENCE before; a PRESENCE notice without STATUS is offered exactly if the state
changed and NOTIFY is on, and is enqueued with the next SEQ while the queue holds fewer than 16 notices, and otherwise
dropped and counted. -/
def Obligations.PresenceResetStartsAfresh : Prop :=
  ∀ (f : Frame) (rest : List Frame) (r : RouteId) (s : State), Asks s f rest .presenceReset → s.session = .opened →
    f.payload = [byte r.val] →
    ((s.route r).config = none → exec .presenceReset s = .next (s.afterReply rest ⟨0x94, f.tag, [0x20]⟩)) ∧
    (∀ c, (s.route r).config = some c → (c.notify = false ∨ (s.route r).presence = .unknown) →
      exec .presenceReset s = .next
        ((s.afterReply rest ⟨0x94, f.tag, [0x00, byte r.val, (s.route r).presence.code]⟩).setRoute r
          { s.route r with presence := .unknown, goodStreak := 0, badStreak := 0 })) ∧
    (∀ c, (s.route r).config = some c → c.notify = true → (s.route r).presence ≠ .unknown → s.notices.length < 16 →
      exec .presenceReset s = .next
        { (s.afterReply rest ⟨0x94, f.tag, [0x00, byte r.val, (s.route r).presence.code]⟩).setRoute r
            { s.route r with presence := .unknown, goodStreak := 0, badStreak := 0 } with
          notices := s.notices ++ [⟨s.nextSeq, s.dropped, false, .presence r (s.route r).presence .unknown none⟩]
          nextSeq := if s.nextSeq < 65535 then s.nextSeq + 1 else 1
          dropped := 0
          attnLow := decide (s.credits = 0) }) ∧
    (∀ c, (s.route r).config = some c → c.notify = true → (s.route r).presence ≠ .unknown → 16 ≤ s.notices.length →
      exec .presenceReset s = .next
        { (s.afterReply rest ⟨0x94, f.tag, [0x00, byte r.val, (s.route r).presence.code]⟩).setRoute r
            { s.route r with presence := .unknown, goodStreak := 0, badStreak := 0 } with
          dropped := min (s.dropped + 1) 255 })

/-- The classes of R135, for every combination that arises: an acknowledge of the address is evidence for the device, a
refused address or a stretch timeout evidence against it, and nothing else counts.
One outcome on a configured route (R136 to R139): the streaks move, and then PRESENCE by the table, a change into SUSPECT
being tested again at once. With NOTIFY on each change offers its PRESENCE notice, the first before the second. Nothing
else changes. -/
def Obligations.OutcomesMoveTheJudgement : Prop :=
  ((∀ st ∈ [Status.ok, .nackData, .arbLostData, .cancelled, .deadline], classify st true = .good) ∧
  (∀ st ∈ [Status.cancelled, .deadline, .arbLost, .branchDown, .routeHeld], classify st false = .neutral) ∧
  (∀ st ∈ [Status.nackAddr, .stretchTimeout], ∀ acked, classify st acked = .bad) ∧
  (∀ acked, classify .busFault acked = .neutral)) ∧
  (∀ (s : State) (r : RouteId) (c : RouteConfig) (st : Status) (acked : Bool), (s.route r).config = some c →
    let old := (s.route r).presence
    let good := min ((s.route r).goodStreak + 1) 8
    let bad := min ((s.route r).badStreak + 1) 8
    let told := fun (new : Presence) (t : State) =>
      if c.notify = false ∨ new = old then t
      else if old = .absent ∧ new = .present ∨ old = .present ∧ new = .absent then
        (t.offer (.presence r old .suspect (some st))).offer (.presence r .suspect new (some st))
      else t.offer (.presence r old new (some st))
    let afterGood : Presence := match old with
      | .unknown => if good = c.qualify then .present else .unknown
      | .present => .present
      | .suspect => if good = c.qualify then .present else .suspect
      | .absent => if good = c.qualify then .present else .suspect
    let afterBad : Presence := match old with
      | .unknown => if bad = c.drop then .absent else .unknown
      | .present => if bad = c.drop then .absent else .suspect
      | .suspect => if bad = c.drop then .absent else .suspect
      | .absent => .absent
    (classify st acked = .neutral → s.presenceOutcome r st acked = s) ∧
    (classify st acked = .good → s.presenceOutcome r st acked = told afterGood
      (s.setRoute r { s.route r with goodStreak := good, badStreak := 0, presence := afterGood })) ∧
    (classify st acked = .bad → s.presenceOutcome r st acked = told afterBad
      (s.setRoute r { s.route r with goodStreak := 0, badStreak := bad, presence := afterBad })))

/-! ### Branch requests -/

/-- BRANCH_SET (R82, R83): accepted in OFF, IDLE or ISOLATED with an empty queue, it stores the four fields, turns the
engine OFF if ENABLED is no and OFF to IDLE if it is yes, and keeps the counters; otherwise it is refused BRANCH_BUSY.
That BUS_FREE stays as it was, whatever the new SPEED, is the model's choice (log 28). -/
def Obligations.BranchSetOnAnIdleBranch : Prop :=
  ∀ (f : Frame) (rest : List Frame) (b : BranchId) (c : BranchConfig) (s : State), Asks s f rest .branchSet →
    s.session = .opened → 1 ≤ c.stretchLimit → c.stretchLimit ≤ 255 → f.payload = branchSetBytes b c →
    let e : Engine :=
      if c.enabled then (if (s.branch b).engine = .off then .idle else (s.branch b).engine) else .off
    (((s.branch b).engine = .off ∨ (s.branch b).engine = .idle ∨ (s.branch b).engine = .isolated) →
      (s.branch b).queue = [] →
      exec .branchSet s = .next ((s.afterReply rest ⟨0x98, f.tag, [0x00, byte b.val, e.code]⟩).setBranch b
        { s.branch b with config := c, engine := e })) ∧
    ((s.branch b).engine ≠ .off ∧ (s.branch b).engine ≠ .idle ∧ (s.branch b).engine ≠ .isolated ∨
        (s.branch b).queue ≠ [] →
      exec .branchSet s = .next (s.afterReply rest ⟨0x98, f.tag, [0x29]⟩))

/-- BRANCH_RESET (R117, R118, R108, R109): refused BRANCH_DOWN in OFF and BRANCH_BUSY in WAIT_FREE, ACTIVE or RECOVERING.
Accepted, its reply is owed and the engine is RECOVERING for it: waiting in RELEASE under a clock interval if the clock
line is low, and otherwise at the first pulse, or at the stop if the data line is high, which pulls the clock low and so
clears BUS_FREE (log 14; the interval's date by log 32). -/
def Obligations.BranchResetBeginsARecovery : Prop :=
  ∀ (f : Frame) (rest : List Frame) (b : BranchId) (s : State), AsksOpen s f rest .branchReset →
    f.payload = [byte b.val] →
    ((s.branch b).engine = .off → exec .branchReset s = .next (s.afterReply rest ⟨0x9A, f.tag, [0x28]⟩)) ∧
    ((s.branch b).engine ≠ .off → (s.branch b).engine ≠ .idle → (s.branch b).engine ≠ .isolated →
      exec .branchReset s = .next (s.afterReply rest ⟨0x9A, f.tag, [0x29]⟩)) ∧
    (((s.branch b).engine = .idle ∨ (s.branch b).engine = .isolated) →
      exec .branchReset s = .next (({ s with rxQueue := rest }.setPendingReset b (some f.tag)).setBranch b
        { s.branch b with
          busFree := (s.branch b).busFree && !(s.branch b).lines.clockHigh
          lines := ⟨false, (s.branch b).lines.dataHigh⟩
          engine := .recovering ⟨.reset,
            if (s.branch b).lines.clockHigh then (if (s.branch b).lines.dataHigh then .stop else .pulsing)
              else .release,
            0, some ⟨s.now, (s.branch b).config.stretchLimit⟩, none⟩ }))

/-! ### Transfers -/

/-- XFER refused (R59): a request whose fields form no legal transfer is refused BAD_FORM, BROADCAST as its OP included.
XFER refused (R60, R140): the six checks in their order. A refusal is one reply with the status alone. -/
def Obligations.XferRefusedInOrder : Prop :=
  (∀ (f : Frame) (rest : List Frame) (x : XferForm) (s : State), Asks s f rest .xfer → s.session = .opened →
    x.writeData.length ≤ 32 → x.readCount ≤ 32 → f.payload = x.bytes →
    ¬ ((x.op = .write ∧ x.readCount = 0 ∨ x.op = .read ∧ x.writeData = [] ∧ 1 ≤ x.readCount ∨
        x.op = .writeRead ∧ 1 ≤ x.writeData.length ∧ 1 ≤ x.readCount) ∧
      (x.posted = true → x.op = .write ∧ 1 ≤ x.writeData.length ∧ x.urgent = false)) →
    exec .xfer s = .next (s.afterReply rest ⟨0xA0, f.tag, [0x11]⟩)) ∧
  (∀ (f : Frame) (rest : List Frame) (x : XferForm) (s : State), AsksOpen s f rest .xfer → x.InRange →
    f.payload = x.bytes → PoolLaw s →
    ((s.route x.route).config = none → exec .xfer s = .next (s.afterReply rest ⟨0xA0, f.tag, [0x20]⟩)) ∧
    ∀ c, (s.route x.route).config = some c →
      ((s.route x.route).hold ≠ none → exec .xfer s = .next (s.afterReply rest ⟨0xA0, f.tag, [0x21]⟩)) ∧
      ((s.route x.route).hold = none → (s.branch c.branch).down = true →
        exec .xfer s = .next (s.afterReply rest ⟨0xA0, f.tag, [0x28]⟩)) ∧
      ((s.route x.route).hold = none → (s.branch c.branch).down = false → (s.route x.route).presence = .absent →
        (x.probe = false ∨ x.posted = true) →
        exec .xfer s = .next (s.afterReply rest ⟨0xA0, f.tag, [0x24]⟩)) ∧
      ((s.route x.route).hold = none → (s.branch c.branch).down = false → (s.route x.route).presence ≠ .absent →
        x.posted = true → c.posting = false →
        exec .xfer s = .next (s.afterReply rest ⟨0xA0, f.tag, [0x11]⟩)) ∧
      ((s.route x.route).hold = none → (s.branch c.branch).down = false →
        ((s.route x.route).presence = .absent → x.probe = true ∧ x.posted = false) →
        (x.posted = true → c.posting = true) → (20 ≤ s.jobs.countP Job.isHost ∨ s.jobs.length = 24) →
        exec .xfer s = .next (s.afterReply rest ⟨0xA0, f.tag, [0x15]⟩)))

/-- XFER accepted (R56, R58, R61, R65, R67, R121): a job in a slot no other job has takes its place in its branch's queue
and the route's JOBS rises. If POSTED, the reply with the post number is queued and NEXT_POST advances; if not, the reply is
owed, and nothing is queued. Then the engine, if IDLE, selects. -/
def Obligations.XferBecomesAJob : Prop :=
  ∀ (f : Frame) (rest : List Frame) (x : XferForm) (c : RouteConfig) (s : State), AsksOpen s f rest .xfer →
    x.InRange → f.payload = x.bytes → PoolLaw s → (s.route x.route).config = some c → (s.route x.route).hold = none →
    (s.branch c.branch).down = false →
    ((s.route x.route).presence = .absent → x.probe = true ∧ x.posted = false) →
    (x.posted = true → c.posting = true) → s.jobs.countP Job.isHost < 20 → s.jobs.length < 24 →
    ∃ slot : SlotId, (∀ j ∈ s.jobs, j.slot ≠ slot) ∧
      let job : Job := ⟨slot, .host f.tag, some x.route, c.branch, x.op, x.writeData, x.readCount, x.urgent,
        if x.posted then some (s.route x.route).nextPost else none, s.now, s.now + c.deadline, 0, 0, .queued, 0, [],
        false, none⟩
      let t : State := { s with
        rxQueue := rest
        replies := s.replies ++ if x.posted then [⟨0xA0, f.tag, 0x01 :: bytes16 (s.route x.route).nextPost⟩] else [] }
      exec .xfer s = .next (((t.setRoute x.route
        { s.route x.route with
          jobs := (s.route x.route).jobs + 1
          nextPost := if x.posted then
              if (s.route x.route).nextPost < 65535 then (s.route x.route).nextPost + 1 else 1
            else (s.route x.route).nextPost }).setBranch c.branch
        { s.branch c.branch with queue := placeJob job (s.branch c.branch).queue }).selectIfIdle c.branch)

/-- BROADCAST (R62, R63): refused BRANCH_DOWN on a branch OFF or ISOLATED, else BUSY with the host share or the pool full;
accepted, the job joins the queue of its branch with a deadline of 1000 ms, no route changes, the reply is owed, and the
engine, if IDLE, selects. -/
def Obligations.BroadcastBecomesAJob : Prop :=
  ∀ (f : Frame) (rest : List Frame) (x : BroadcastForm) (s : State), AsksOpen s f rest .broadcast →
    1 ≤ x.writeData.length → x.writeData.length ≤ 32 → f.payload = x.bytes → PoolLaw s →
    ((s.branch x.branch).down = true → exec .broadcast s = .next (s.afterReply rest ⟨0xA1, f.tag, [0x28]⟩)) ∧
    ((s.branch x.branch).down = false → (20 ≤ s.jobs.countP Job.isHost ∨ s.jobs.length = 24) →
      exec .broadcast s = .next (s.afterReply rest ⟨0xA1, f.tag, [0x15]⟩)) ∧
    ((s.branch x.branch).down = false → s.jobs.countP Job.isHost < 20 → s.jobs.length < 24 →
      ∃ slot : SlotId, (∀ j ∈ s.jobs, j.slot ≠ slot) ∧
        let job : Job := ⟨slot, .host f.tag, none, x.branch, .broadcast, x.writeData, 0, x.urgent, none, s.now,
          s.now + 1000, 0, 0, .queued, 0, [], false, none⟩
        exec .broadcast s = .next ((State.setBranch { s with rxQueue := rest } x.branch
          { s.branch x.branch with queue := placeJob job (s.branch x.branch).queue }).selectIfIdle x.branch))

/-- The place of a job (R65): a normal job joins at the tail; an urgent one just after the later of the last urgent job
and the last job of its own route or pseudo-route, or at the head if there is neither.
Selection (R66): the job taken is QUEUED with no job of its route or pseudo-route ahead of it, and every job ahead of
it fails one of the two conditions; none is taken only if every job fails one. -/
def Obligations.QueuePlaceAndSelection : Prop :=
  (∀ (j : Job) (q : List Job), ∃ front back : List Job, q = front ++ back ∧ placeJob j q = front ++ j :: back ∧
    (j.urgent = false → back = []) ∧
    (j.urgent = true → (∀ i ∈ back, i.urgent = false ∧ i.route ≠ j.route) ∧
      (front = [] ∨ ∃ front' i, front = front' ++ [i] ∧ (i.urgent = true ∨ i.route = j.route)))) ∧
  (∀ q : List Job,
    let eligible := fun (front : List Job) (j : Job) => j.state = .queued ∧ ∀ i ∈ front, i.route ≠ j.route
    (∀ j, firstEligible [] q = some j → ∃ front back, q = front ++ j :: back ∧ eligible front j ∧
      ∀ front' i back', front = front' ++ i :: back' → ¬ eligible front' i) ∧
    (firstEligible [] q = none → ∀ front i back, q = front ++ i :: back → ¬ eligible front i))

/-- The start of a selected job (R67, R88, R89, R108, R109): an engine that is not IDLE, or finds no job, does nothing.
With BUS_FREE set the job becomes ACTIVE and the engine conducts it from START, pulling the data line low, which clears
BUS_FREE at once (R87, R91). Otherwise, with MULTI off and the data line
alone low, a recovery begins; in every other case the engine waits for the bus, timing a low line.
That the data line is low and BUS_FREE clear in the very step that selects, ahead of the reading back that R91 and R97 put
before the pull, is the model's (log 26), and so is that a recovery is at its first pulse at once (log 14), its
interval dated by log 32. -/
def Obligations.SelectedJobStartsByTheMonitor : Prop :=
  ∀ (s : State) (b : BranchId),
    ((s.branch b).engine ≠ .idle → s.selectIfIdle b = s) ∧
    (firstEligible [] (s.branch b).queue = none → s.selectIfIdle b = s) ∧
    ∀ j, (s.branch b).engine = .idle → firstEligible [] (s.branch b).queue = some j → j.branch = b →
      s.selectIfIdle b = s.setBranch b (
        if (s.branch b).busFree then { s.branch b with
          lines := ⟨(s.branch b).lines.clockHigh, false⟩
          busFree := false
          engine := .active ⟨j.slot, .start, none⟩
          queue := (s.branch b).queue.map fun i => if i.slot = j.slot then { i with state := .active } else i }
        else if (s.branch b).config.multi = false ∧ (s.branch b).lines = ⟨true, false⟩ then { s.branch b with
          lines := ⟨false, false⟩
          engine := .recovering ⟨.busFault, .pulsing, 0, some ⟨s.now, (s.branch b).config.stretchLimit⟩, none⟩ }
        else { s.branch b with
          engine := .waitFree (match (s.branch b).lines with
            | ⟨false, _⟩ => some ⟨.clock, ⟨s.now, (s.branch b).config.stretchLimit⟩⟩
            | ⟨true, false⟩ => some ⟨.data, ⟨s.now, (s.branch b).config.stretchLimit⟩⟩
            | ⟨true, true⟩ => none) })

/-- CANCEL (R76 to R79, R98): with no owed job of the TARGET it is answered NOT_FOUND. A waiting target ends CANCELLED, its
reply standing just before the CANCEL's OK. An ACTIVE target becomes ENDING with the CANCEL's reply deferred on it. A
target ENDING for a CANCEL gives CANCEL_PENDING, and one ENDING for its deadline TOO_LATE.
What a job becoming ENDING does to its engine (R98): away from a byte boundary nothing; at one, the engine goes to
STOPPING at once, except that a READ which has acknowledged a byte goes on to the next, and that START, ADDRESS and
STOPPING run their course. -/
def Obligations.CancelAndTheByteBoundary : Prop :=
  (∀ (f : Frame) (rest : List Frame) (target : Byte) (atBoundary : Bool) (s : State), AsksOpen s f rest .cancel →
    f.payload = [target] → target ≠ 0 →
    ((∀ j ∈ s.jobs, j.owedTag ≠ some target) →
      exec (.cancel atBoundary) s = .next (s.afterReply rest ⟨0xA2, f.tag, [0x30, target]⟩)) ∧
    ∀ j ∈ s.jobs, j.owedTag = some target → (∀ i ∈ s.jobs, i.owedTag = some target → i = j) →
      ((j.state = .queued ∨ ∃ at_, j.state = .retryWait at_) → j.cancelTag = none →
        let t := State.afterWaitingEnd { s with rxQueue := rest } j target 0x46
        exec (.cancel atBoundary) s = .next
          (State.selectIfIdle { t with replies := t.replies ++ [⟨0xA2, f.tag, [0x00, target]⟩] } j.branch)) ∧
      (j.state = .active →
        exec (.cancel atBoundary) s = .next (State.setBranch { s with rxQueue := rest } j.branch
          { s.branch j.branch with
            engine := (s.branch j.branch).engine.onEnding j.slot .cancel atBoundary
            queue := (s.branch j.branch).queue.map fun i =>
              if i.slot = j.slot then { i with state := .ending .cancel, cancelTag := some f.tag } else i })) ∧
      (j.state = .ending .cancel →
        exec (.cancel atBoundary) s = .next (s.afterReply rest ⟨0xA2, f.tag, [0x31, target]⟩)) ∧
      (j.state = .ending .deadline →
        exec (.cancel atBoundary) s = .next (s.afterReply rest ⟨0xA2, f.tag, [0x32, target]⟩))) ∧
  (∀ (c : Conduct) (cause : EndCause),
    (Engine.active c).onEnding c.slot cause false = .active c ∧
    ((c.phase = .restart ∨ (∃ k, c.phase = .writing k) ∨ c.phase = .reading 0) →
      (Engine.active c).onEnding c.slot cause true = .active { c with phase := .stopping (.byteBoundary cause) }) ∧
    ((c.phase = .start ∨ (∃ rep, c.phase = .address rep) ∨ (∃ k, c.phase = .reading (k + 1)) ∨
      ∃ why, c.phase = .stopping why) → (Engine.active c).onEnding c.slot cause true = .active c))

/-- JOB_DEADLINE_EXPIRES (R69, R71, R157): before DEADLINE_AT, or of a job already ENDING, nothing. A waiting owed job ends
DEADLINE with its reply; a waiting poll ends silently with POLL_OUT cleared; an ACTIVE job becomes ENDING. Then the engine,
if IDLE, selects. In CLOSING too an ENDING job keeps its first END_CAUSE (R69). An end is stated in OPEN alone: outside it no
job waits (R30).
Before DEADLINE_AT the command does nothing by log 1 and log 3; the byte boundary is its operand by log 12. -/
def Obligations.DeadlineActsByTheJobsState : Prop :=
  ∀ (slot : SlotId) (atBoundary : Bool) (s : State), PoolLaw s →
    ((∀ j ∈ s.jobs, j.slot ≠ slot) → exec (.jobDeadlineExpires slot atBoundary) s = .next s) ∧
    ∀ j ∈ s.jobs, j.slot = slot →
      (s.now < j.deadlineAt → exec (.jobDeadlineExpires slot atBoundary) s = .next s) ∧
      (j.deadlineAt ≤ s.now → (∃ cause, j.state = .ending cause) →
        exec (.jobDeadlineExpires slot atBoundary) s = .next s) ∧
      (j.deadlineAt ≤ s.now → j.state = .active →
        exec (.jobDeadlineExpires slot atBoundary) s = .next (s.setBranch j.branch
          { s.branch j.branch with
            engine := (s.branch j.branch).engine.onEnding j.slot .deadline atBoundary
            queue := (s.branch j.branch).queue.map fun i =>
              if i.slot = j.slot then { i with state := .ending .deadline } else i })) ∧
      (∀ tag, s.session = .opened → j.deadlineAt ≤ s.now → (j.state = .queued ∨ ∃ at_, j.state = .retryWait at_) → j.owedTag = some tag →
        j.cancelTag = none →
        exec (.jobDeadlineExpires slot atBoundary) s =
          .next ((s.afterWaitingEnd j tag 0x47).selectIfIdle j.branch)) ∧
      (∀ w r, s.session = .opened → j.deadlineAt ≤ s.now → (j.state = .queued ∨ ∃ at_, j.state = .retryWait at_) → j.origin = .watch w →
        j.route = some r →
        exec (.jobDeadlineExpires slot atBoundary) s =
          .next ((((s.setBranch j.branch
              { s.branch j.branch with queue := (s.branch j.branch).queue.filter fun i => i.slot ≠ j.slot }).setRoute r
                { s.route r with jobs := (s.route r).jobs - 1 }).setWatch w
                  { s.watch w with pollOut := false }).selectIfIdle j.branch))

/-- RETRY_WAIT_ENDS (R70, R107): from READY_AT on, a job in RETRY_WAIT is QUEUED in its place, and the engine, if IDLE,
selects; before it, in another state, or with no job in the slot, nothing happens.
Where nothing happens, it is by log 1 and log 3. -/
def Obligations.RetryWaitEndsInPlace : Prop :=
  ∀ (slot : SlotId) (s : State), PoolLaw s →
    ((∀ j ∈ s.jobs, j.slot ≠ slot) → exec (.retryWaitEnds slot) s = .next s) ∧
    ∀ j ∈ s.jobs, j.slot = slot →
      (∀ at_, j.state = .retryWait at_ → s.now < at_ → exec (.retryWaitEnds slot) s = .next s) ∧
      ((∀ at_, j.state ≠ .retryWait at_) → exec (.retryWaitEnds slot) s = .next s) ∧
      (∀ at_, j.state = .retryWait at_ → at_ ≤ s.now →
        exec (.retryWaitEnds slot) s = .next ((s.setBranch j.branch
          { s.branch j.branch with
            queue := (s.branch j.branch).queue.map fun i => if i.slot = j.slot then { i with state := .queued } else i
          }).selectIfIdle j.branch))

/-! ### Watches -/

/-- WATCH_SET (R149 to R151, R166): refused BAD_ROUTE on a free route, else WATCH_BUSY while its poll is out. Accepted, the
configuration is stored whole, GENERATION advances from 255 to 0, LAST_VALUE is absent and MISSED 0, the watch is armed
with PERIOD exactly if ENABLED is yes, and its waiting CHANGE notice is sealed.
WATCH_CLEAR (R152, R166): refused NOT_FOUND on a free watch, else WATCH_BUSY while its poll is out. Accepted, the watch
is free and unarmed, GENERATION advances, and its waiting CHANGE notice is sealed. -/
def Obligations.WatchSetAndClear : Prop :=
  (∀ (f : Frame) (rest : List Frame) (w : WatchId) (c : WatchConfig) (s : State), Asks s f rest .watchSet →
    s.session = .opened → c.InRange → f.payload = byte w.val :: c.bytes →
    ((s.route c.route).config = none → exec .watchSet s = .next (s.afterReply rest ⟨0xA8, f.tag, [0x20]⟩)) ∧
    ((s.route c.route).config ≠ none → (s.watch w).pollOut = true →
      exec .watchSet s = .next (s.afterReply rest ⟨0xA8, f.tag, [0x2C]⟩)) ∧
    ((s.route c.route).config ≠ none → (s.watch w).pollOut = false →
      let generation := if (s.watch w).generation < 255 then (s.watch w).generation + 1 else 0
      let t : State := { s.afterReply rest ⟨0xA8, f.tag, [0x00, byte w.val, byte generation]⟩ with
        notices := s.notices.map fun n => match n.body with
          | .change x => if x.watch = w then { n with sealed := true } else n
          | _ => n }
      exec .watchSet s = .next (t.setWatch w
        ⟨some c, generation, c.enabled, if c.enabled then c.period else 0, none, 0, false⟩))) ∧
  (∀ (f : Frame) (rest : List Frame) (w : WatchId) (s : State), Asks s f rest .watchClear → s.session = .opened →
    f.payload = [byte w.val] →
    ((s.watch w).config = none → exec .watchClear s = .next (s.afterReply rest ⟨0xAA, f.tag, [0x30]⟩)) ∧
    ((s.watch w).config ≠ none → (s.watch w).pollOut = true →
      exec .watchClear s = .next (s.afterReply rest ⟨0xAA, f.tag, [0x2C]⟩)) ∧
    ((s.watch w).config ≠ none → (s.watch w).pollOut = false →
      let generation := if (s.watch w).generation < 255 then (s.watch w).generation + 1 else 0
      let t : State := { s.afterReply rest ⟨0xAA, f.tag, [0x00, byte w.val, byte generation]⟩ with
        notices := s.notices.map fun n => match n.body with
          | .change x => if x.watch = w then { n with sealed := true } else n
          | _ => n }
      exec .watchClear s = .next (t.setWatch w
        ⟨none, generation, false, 0, none, 0, false⟩)))

/-- WATCH_COUNTDOWN_EXPIRES (R148, R154, R155): of a watch that is free or unarmed, or with ms remaining, nothing. Otherwise
the countdown restarts, and MISSED rises if the poll is out, the route is held, its branch is OFF or ISOLATED, or the pool
is full; if none of these holds, a poll joins the queue of the route's branch at the tail, and the engine, if IDLE,
selects.
Where nothing happens, it is by log 1 and log 3. -/
def Obligations.ExpiryPollsOrMisses : Prop :=
  ∀ (w : WatchId) (s : State), PoolLaw s →
    (((s.watch w).config = none ∨ (s.watch w).armed = false ∨ 0 < (s.watch w).countdown) →
      exec (.watchCountdownExpires w) s = .next s) ∧
    ∀ c rc, (s.watch w).config = some c → (s.watch w).armed = true → (s.watch w).countdown = 0 →
      (s.route c.route).config = some rc →
      (((s.watch w).pollOut = true ∨ (s.route c.route).hold ≠ none ∨ (s.branch rc.branch).down = true ∨
          s.jobs.length = 24) →
        exec (.watchCountdownExpires w) s = .next (s.setWatch w
          { s.watch w with countdown := c.period, missed := min ((s.watch w).missed + 1) 255 })) ∧
      ((s.watch w).pollOut = false → (s.route c.route).hold = none → (s.branch rc.branch).down = false →
        s.jobs.length < 24 →
        ∃ slot : SlotId, (∀ j ∈ s.jobs, j.slot ≠ slot) ∧
          let poll : Job := ⟨slot, .watch w, some c.route, rc.branch, if c.lead = [] then .read else .writeRead, c.lead,
            c.length, false, none, s.now, s.now + rc.deadline, 0, 0, .queued, 0, [], false, none⟩
          exec (.watchCountdownExpires w) s = .next ((((s.setWatch w
              { s.watch w with countdown := c.period, pollOut := true }).setRoute c.route
                { s.route c.route with jobs := (s.route c.route).jobs + 1 }).setBranch rc.branch
                  { s.branch rc.branch with queue := (s.branch rc.branch).queue ++ [poll] }).selectIfIdle rc.branch))

/-! ### The line monitor and recovery -/

/-- BUS_FREE_SET (R67, R87, R89, R112, R118, R119): with BUS_FREE set already, a line low, or the engine driving the lines,
nothing. Otherwise BUS_FREE is set; it takes an engine from WAIT_FREE to IDLE, where it selects, and it ends a recovery in
success: RECOVERIES rises, a pending BRANCH_RESET is answered OK, a RECOVERED notice is offered unless the cause is RESET,
and the engine, IDLE, selects.
Where nothing happens, it is by log 1. -/
def Obligations.BusFreeEndsTheWaits : Prop :=
  ∀ (s : State) (b : BranchId),
    (((s.branch b).busFree = true ∨ (s.branch b).lines ≠ ⟨true, true⟩ ∨ (∃ c, (s.branch b).engine = .active c) ∨
        ∃ r, (s.branch b).engine = .recovering r ∧ r.step ≠ .idleWait) → exec (.busFreeSet b) s = .next s) ∧
    ((s.branch b).busFree = false → (s.branch b).lines = ⟨true, true⟩ →
      (((s.branch b).engine = .off ∨ (s.branch b).engine = .idle ∨ (s.branch b).engine = .isolated) →
        exec (.busFreeSet b) s = .next (s.setBranch b { s.branch b with busFree := true })) ∧
      (∀ stuck, (s.branch b).engine = .waitFree stuck →
        exec (.busFreeSet b) s =
          .next ((s.setBranch b { s.branch b with busFree := true, engine := .idle }).selectIfIdle b)) ∧
      ∀ r, (s.branch b).engine = .recovering r → r.step = .idleWait →
        ∃ t : State, exec (.busFreeSet b) s = .next (t.selectIfIdle b) ∧
          t = { s with
            branches := t.branches
            pendingResets := t.pendingResets
            replies := s.replies ++ match s.pendingReset b with
              | none => []
              | some tag => [⟨0x9A, tag, [0x00, byte b.val]⟩]
            notices := if r.cause = .reset then s.notices
              else noticesAfterOffer s (.branch b .recovered r.cause.status 0)
            nextSeq := t.nextSeq
            dropped := t.dropped
            attnLow := t.attnLow } ∧
          (∀ k, t.branch k = if k = b then { s.branch b with
            busFree := true, engine := .idle, recoveries := min ((s.branch b).recoveries + 1) 65535 } else s.branch k) ∧
          ∀ k, t.pendingReset k = if k = b then none else s.pendingReset k)

/-- BRANCH_LINE_LEVEL_CHANGE (R87, R89, R96, R109, R110): a line seen low clears BUS_FREE. In WAIT_FREE and IDLE_WAIT the change
starts, stops or restarts the stuck-line interval. In RELEASE the clock seen high goes on to the first pulse, or to the
stop if the data line is high; in PULSING and STOP it stops the clock interval. In ACTIVE the clock seen high stops the
stretch interval, and the clock seen low, outside START, begins another release with an interval of its own (R96; log 16, and
log 29 for RESTART and STOPPING). The clock seen low again in PULSING and STOP starts no clock interval by log 33.
No change does nothing.
That the next pulse or the stop begins in the same step is the model's (log 14), and so is that its clock interval is dated
from the engine pulling the clock line low (log 32). -/
def Obligations.LineChangesAreSeen : Prop :=
  ∀ (s : State) (b : BranchId) (line : BusLine) (high : Bool),
    let br := s.branch b
    let lines : Lines := match line with
      | .clock => ⟨high, br.lines.dataHigh⟩
      | .data => ⟨br.lines.clockHigh, high⟩
    let seen : Branch := { br with lines := lines, busFree := br.busFree && lines.clockHigh && lines.dataHigh }
    let interval : Interval := ⟨s.now, br.config.stretchLimit⟩
    let timed := fun running : Option Stuck => match line with
      | .clock => if high then (if lines.dataHigh then none else some ⟨.data, interval⟩) else some ⟨.clock, interval⟩
      | .data => if lines.clockHigh then (if high then none else some (⟨.data, interval⟩ : Stuck)) else running
    (lines = br.lines → exec (.branchLineLevelChange b line high) s = .next s) ∧
    (lines ≠ br.lines →
      ((br.engine = .off ∨ br.engine = .idle ∨ br.engine = .isolated ∨
          ∃ r, br.engine = .recovering r ∧ r.step = .release ∧ lines.clockHigh = false) →
        exec (.branchLineLevelChange b line high) s = .next (s.setBranch b seen)) ∧
      (∀ c, br.engine = .active c →
        exec (.branchLineLevelChange b line high) s = .next (s.setBranch b { seen with
          engine := .active { c with
            stretch := match line with
              | .data => c.stretch
              | .clock => if high then none else if c.phase = .start then c.stretch else some interval } })) ∧
      (∀ r, br.engine = .recovering r → (r.step = .pulsing ∨ r.step = .stop) →
        exec (.branchLineLevelChange b line high) s = .next (s.setBranch b { seen with
          engine := .recovering { r with clock := if line = .clock ∧ high = true then none else r.clock } })) ∧
      (∀ stuck, br.engine = .waitFree stuck →
        exec (.branchLineLevelChange b line high) s =
          .next (s.setBranch b { seen with engine := .waitFree (timed stuck) })) ∧
      (∀ r, br.engine = .recovering r → r.step = .idleWait →
        exec (.branchLineLevelChange b line high) s =
          .next (s.setBranch b { seen with engine := .recovering { r with stuck := timed r.stuck } })) ∧
      (∀ r, br.engine = .recovering r → r.step = .release → lines.clockHigh = true →
        exec (.branchLineLevelChange b line high) s = .next (s.setBranch b { seen with
          lines := ⟨false, lines.dataHigh⟩
          busFree := false
          engine := .recovering ⟨r.cause, if lines.dataHigh then .stop else .pulsing, 0, some interval, none⟩ })))

/-- STUCK_LINE_INTERVAL_EXPIRES (R89, R108 to R110): before STRETCH_LIMIT ms of a low line, nothing, in WAIT_FREE and in the
IDLE_WAIT of a recovery; then, in WAIT_FREE, the engine is RECOVERING, with cause STRETCH_TIMEOUT in RELEASE for the clock line, and with cause BUS_FAULT at the first pulse
for the data line.
Where nothing happens, it is by log 1 and log 3; the first pulse at once is by log 14, and its clock interval is dated from the
engine pulling the clock line low by log 32. -/
def Obligations.StuckLineBeginsARecovery : Prop :=
  ∀ (s : State) (b : BranchId),
    (∀ stuck, (s.branch b).engine = .waitFree stuck →
      (∀ x, stuck = some x → s.now < x.interval.since + x.interval.limit) →
      exec (.stuckLineIntervalExpires b) s = .next s) ∧
    (∀ r, (s.branch b).engine = .recovering r → r.step = .idleWait →
      (∀ x, r.stuck = some x → s.now < x.interval.since + x.interval.limit) →
      exec (.stuckLineIntervalExpires b) s = .next s) ∧
    (∀ i, (s.branch b).engine = .waitFree (some ⟨.clock, i⟩) → i.since + i.limit ≤ s.now →
      (s.branch b).lines.clockHigh = false →
      exec (.stuckLineIntervalExpires b) s = .next (s.setBranch b { s.branch b with
        engine := .recovering ⟨.stretchTimeout, .release, 0, some ⟨s.now, (s.branch b).config.stretchLimit⟩, none⟩ })) ∧
    (∀ i, (s.branch b).engine = .waitFree (some ⟨.data, i⟩) → i.since + i.limit ≤ s.now →
      (s.branch b).lines = ⟨true, false⟩ →
      exec (.stuckLineIntervalExpires b) s = .next (s.setBranch b { s.branch b with
        lines := ⟨false, false⟩
        busFree := false
        engine := .recovering ⟨.busFault, .pulsing, 0, some ⟨s.now, (s.branch b).config.stretchLimit⟩, none⟩ })) ∧
    ((∀ stuck, (s.branch b).engine ≠ .waitFree stuck) →
      (∀ r, (s.branch b).engine = .recovering r → r.step ≠ .idleWait) →
      exec (.stuckLineIntervalExpires b) s = .next s)

/-- RECOVERY_PULSE_DONE, RECOVERY_STOP_DONE and RECOVERY_CLOCK_INTERVAL_EXPIRES where the recovery goes on (R109, R110): a
pulse is counted, and leads to the stop if the data line is high and to the next pulse if it is low and the count is
below 9, either of which pulls the clock line low again; after the stop the engine waits for BUS_FREE, timing a clock line
that fell again after its rise, and otherwise a data line still low; before its limit a clock interval does
nothing, and so does each event outside its step.
Where nothing happens, it is by log 1 and log 3; the level of the data line is an operand, and a clock interval still running
is ended by the rise that comes with the pulse or the stop, by log 13; the clock intervals are dated by log 32; and a low of the
clock after its rise leaves the pulse or the stop to be done as otherwise by log 33. -/
def Obligations.RecoveryStepsFollow : Prop :=
  ∀ (s : State) (b : BranchId) (dataHigh : Bool),
    let interval : Interval := ⟨s.now, (s.branch b).config.stretchLimit⟩
    let read : Branch := { s.branch b with lines := ⟨true, dataHigh⟩, busFree := false }
    (∀ r, (s.branch b).engine = .recovering r →
      (r.step = .pulsing → (dataHigh = true ∨ r.pulses + 1 < 9) →
        exec (.recoveryPulseDone b dataHigh) s = .next (s.setBranch b { read with
          lines := ⟨false, dataHigh⟩
          engine := .recovering { r with
            step := if dataHigh then .stop else .pulsing, pulses := r.pulses + 1, clock := some interval } })) ∧
      (r.step = .stop → (r.clock ≠ none ∨ (s.branch b).lines.clockHigh = true) →
        exec (.recoveryStopDone b dataHigh) s = .next (s.setBranch b { read with
          engine := .recovering { r with
            step := .idleWait, clock := none, stuck := if dataHigh then none else some ⟨.data, interval⟩ } })) ∧
      (r.step = .stop → r.clock = none → (s.branch b).lines.clockHigh = false →
        exec (.recoveryStopDone b dataHigh) s = .next (s.setBranch b { read with
          lines := ⟨false, dataHigh⟩
          engine := .recovering { r with step := .idleWait, stuck := some ⟨.clock, interval⟩ } })) ∧
      (r.step ≠ .pulsing → exec (.recoveryPulseDone b dataHigh) s = .next s) ∧
      (r.step ≠ .stop → exec (.recoveryStopDone b dataHigh) s = .next s) ∧
      ((∀ i, r.clock = some i → s.now < i.since + i.limit) → exec (.recoveryClockIntervalExpires b) s = .next s)) ∧
    ((∀ r, (s.branch b).engine ≠ .recovering r) →
      exec (.recoveryPulseDone b dataHigh) s = .next s ∧ exec (.recoveryStopDone b dataHigh) s = .next s ∧
        exec (.recoveryClockIntervalExpires b) s = .next s)

/-- A recovery fails (R113 to R116, R118, R119, R132), by a clock interval, the ninth pulse with the data line low, or the
stuck-line interval of IDLE_WAIT: the branch is ISOLATED with an empty queue. Each owed job ends BRANCH_DOWN, in queue
order, and then a pending BRANCH_RESET is answered BUS_FAULT; polls go silently, with POLL_OUT cleared; the JOBS of each route
falls by its jobs in the queue (R52, R114), and each route with posted jobs waiting is held for the first of them, with the
others discarded, while its configuration, PRESENCE, streaks and NEXT_POST stay. The LATE_FAULT notices, one for each of these
routes in the order of their first jobs, and then the ISOLATED notice with the number of host jobs are offered in this order:
each joins the tail of the notice queue, or is dropped and counted if 16 notices wait (R164). Nothing else changes. The premises
are what R57, R64 and R127 say of a queue under recovery.
Outside OPEN, where the queue is empty (R18, R115), the branch is ISOLATED and a pending BRANCH_RESET answered, and no notice
is made (R32, R119).
The levels of the lines afterwards are by log 13. -/
def Obligations.FailedRecoveryDrainsTheQueue : Prop :=
  (∀ (c : Instr) (s : State) (b : BranchId) (r : Recovery), (s.branch b).engine = .recovering r → s.failsBy b r c →
    s.session = .opened → PoolLaw s →
    (∀ j ∈ (s.branch b).queue, j.onWires = false ∧ j.cancelTag = none ∧ ∀ q, j.route = some q →
      (s.route q).waiting = none ∧ ∀ i ∈ s.jobs, i.route = some q → i.branch = b) →
    let queue := (s.branch b).queue
    let posted := fun (q : RouteId) => queue.filterMap fun j => match j.origin, j.post with
      | .host tag, some post => if j.route = some q then some (tag, post) else none
      | _, _ => none
    let routes : List RouteId :=
      (queue.filterMap fun j => if j.isHost ∧ j.post ≠ none then j.route else none).foldl
        (fun seen q => if q ∈ seen then seen else seen ++ [q]) []
    let offers : List NoticeBody := (routes.flatMap fun q => match posted q with
        | [] => []
        | first :: others => [.lateFault q ⟨first.1, first.2, .branchDown, 0⟩
            ⟨others.length, match others.head?, others.getLast? with
              | some x, some y => some (x.2, y.2)
              | _, _ => none⟩]) ++
      [.branch b .isolated r.cause.status (queue.countP Job.isHost)]
    ∃ t : State, exec c s = .next t ∧
      t = { offers.foldl State.afterOffer s with
        routes := t.routes
        branches := t.branches
        watches := t.watches
        pendingResets := t.pendingResets
        replies := s.replies ++
          (queue.flatMap fun j => match j.owedTag with
            | none => []
            | some tag => endReplies j.withoutProgress tag .branchDown) ++
          (match s.pendingReset b with
            | none => []
            | some tag => [⟨0x9A, tag, [0x44, byte b.val]⟩]) } ∧
      (∀ k, t.pendingReset k = if k = b then none else s.pendingReset k) ∧
      (∀ k, k ≠ b → t.branch k = s.branch k) ∧
      t.branch b = { s.branch b with
        engine := .isolated
        isolations := min ((s.branch b).isolations + 1) 65535
        lines := (t.branch b).lines
        busFree := (t.branch b).busFree
        queue := [] } ∧
      (∀ q, t.route q = { s.route q with
        jobs := (s.route q).jobs - queue.countP fun j => decide (j.route = some q)
        hold := match posted q with
          | [] => (s.route q).hold
          | first :: others => some ⟨first.2, .branchDown, others.length⟩ }) ∧
      (∀ w, t.watch w = { s.watch w with
        pollOut := (s.watch w).pollOut && !queue.any fun j => decide (j.origin = .watch w) })) ∧
  (∀ (c : Instr) (s : State) (b : BranchId) (r : Recovery), (s.branch b).engine = .recovering r → s.failsBy b r c →
    s.session ≠ .opened → (s.branch b).queue = [] →
    ∃ t : State, exec c s = .next t ∧
      t = { s with
        branches := t.branches
        pendingResets := t.pendingResets
        replies := s.replies ++ match s.pendingReset b with
          | none => []
          | some tag => [⟨0x9A, tag, [0x44, byte b.val]⟩] } ∧
      (∀ k, t.pendingReset k = if k = b then none else s.pendingReset k) ∧ (∀ k, k ≠ b → t.branch k = s.branch k) ∧
      t.branch b = { s.branch b with
        engine := .isolated
        isolations := min ((s.branch b).isolations + 1) 65535
        lines := (t.branch b).lines
        busFree := (t.branch b).busFree })

/-! ### Conducting a transfer -/

/-- The end of a phase event outside its phase, and any of them on an engine that is not ACTIVE, does nothing (log 1). -/
def Obligations.PhaseEventsNeedTheirPhase : Prop :=
  ∀ (s : State) (b : BranchId) (bit : Bool) (received : Byte) (seen : StretchEnd),
    ((∀ c, (s.branch b).engine ≠ .active c) →
      ∀ e ∈ [Instr.startPhaseDone b, .addressPhaseDone b bit, .writingByteDone b bit, .readingByteDone b received,
        .restartPhaseDone b, .stoppingDone b, .stretchIntervalExpires b seen, .contradiction b received],
        exec e s = .next s) ∧
    ∀ c, (s.branch b).engine = .active c →
      (c.phase ≠ .start → exec (.startPhaseDone b) s = .next s) ∧
      ((∀ rep, c.phase ≠ .address rep) → exec (.addressPhaseDone b bit) s = .next s) ∧
      ((∀ k, c.phase ≠ .writing k) → exec (.writingByteDone b bit) s = .next s) ∧
      ((∀ k, c.phase ≠ .reading k) → exec (.readingByteDone b received) s = .next s) ∧
      (c.phase ≠ .restart → exec (.restartPhaseDone b) s = .next s) ∧
      ((∀ why, c.phase ≠ .stopping why) → exec (.stoppingDone b) s = .next s) ∧
      ((∀ i, c.stretch = some i → s.now < i.since + i.limit) → exec (.stretchIntervalExpires b seen) s = .next s)

/-- START_PHASE_DONE, RESTART_PHASE_DONE and ADDRESS_PHASE_DONE (R90 to R92, R98, R99). After a start the address is sent.
A first address acknowledged sets ADDRESS_ACKED and leads to STOPPING for an address-only WRITE, to the byte boundary's stop
for a job that is ENDING, and otherwise to the first byte; refused, it leads to STOPPING. A repeated address leads to the
byte boundary's stop for a job that is ENDING, and otherwise to READING or, refused, to STOPPING.
WRITING_BYTE_DONE and READING_BYTE_DONE (R93, R94, R98, R99). A written byte acknowledged is counted; the last one a
WRITE or BROADCAST calls for completes the job, ENDING or not; before it, a job that is ENDING stops at the boundary, and
otherwise the next byte follows, or the repeated start of a WRITE_READ. A refused byte stops the job NACK_DATA, but for a
job that is ENDING at a byte that is not its last. A byte read is appended, and the last one completes the job.
Each phase and each byte begins with the clock line pulled low (log 13), and a stretch interval runs for the release that
follows (R96; log 16). -/
def Obligations.PhasesFollow : Prop :=
  (∀ (s : State) (b : BranchId) (c : Conduct) (j : Job), Conducts s b c j →
    let orStop := fun p : Phase => match j.state with
      | .ending cause => Phase.stopping (.byteBoundary cause)
      | _ => p
    (c.phase = .start → exec (.startPhaseDone b) s =
      .next (s.inPhase b c (.address false))) ∧
    (c.phase = .restart → exec (.restartPhaseDone b) s = .next (s.inPhase b c (.address true))) ∧
    (c.phase = .address false → exec (.addressPhaseDone b true) s =
      .next ((s.withJob b { j with addressAcked := true }).inPhase b c
        (if j.op = .write ∧ j.writeData = [] then .stopping .completed
          else orStop (if j.op = .read then .reading 0 else .writing 0)))) ∧
    (c.phase = .address false → exec (.addressPhaseDone b false) s =
      .next (s.inPhase b c (.stopping (.firstRefused s.now)))) ∧
    (c.phase = .address true → exec (.addressPhaseDone b true) s = .next (s.inPhase b c (orStop (.reading 0)))) ∧
    (c.phase = .address true → exec (.addressPhaseDone b false) s =
      .next (s.inPhase b c (orStop (.stopping .repeatedRefused))))) ∧
  (∀ (s : State) (b : BranchId) (c : Conduct) (j : Job) (k : Nat), Conducts s b c j →
    let orStop := fun p : Phase => match j.state with
      | .ending cause => Phase.stopping (.byteBoundary cause)
      | _ => p
    let last := j.op ≠ .writeRead ∧ j.writeData.length ≤ k + 1
    (c.phase = .writing k → exec (.writingByteDone b true) s =
      .next ((s.withJob b { j with ackedWrites := k + 1 }).inPhase b c
        (if last then .stopping .completed
          else orStop (if k + 1 < j.writeData.length then .writing (k + 1) else .restart)))) ∧
    (c.phase = .writing k → exec (.writingByteDone b false) s =
      .next (s.inPhase b c (if last then .stopping .dataRefused else orStop (.stopping .dataRefused)))) ∧
    (∀ received, c.phase = .reading k → exec (.readingByteDone b received) s =
      .next ((s.withJob b { j with readData := j.readData ++ [received] }).inPhase b c
        (if j.readCount ≤ k + 1 then .stopping .completed else orStop (.reading (k + 1))))))

/-- STOPPING_DONE of an owed job that ends (R73, R74, R78, R92, R95, R99, R106): its status is that of the way it reached
STOPPING; its reply is queued, and a deferred CANCEL reply just after it; it leaves its queue, its route's JOBS falls and
its presence takes the outcome; the lines are released, and the engine, IDLE, selects. No other route, branch or watch
changes, and the notices that wait keep their places.
STOPPING_DONE after a first refusal with a retry left (R106, R57): the job waits in its place until RETRY_DELAY ms after
the refusal, with one attempt more and its progress cleared; nothing is delivered, and the engine, IDLE, selects.
STOPPING_DONE of any job, in OPEN or in CLOSING: the end is that of a job on the wires, as UnansweredJobsEndAtTheStop has it,
and a job that enters RETRY_WAIT frees the wires for a waiting late failure of its route (R127), as
WaitingLateFailureIsSettled has it.
Both lines high after the stop is by log 13. -/
def Obligations.StopEndsTheJobOrRetries : Prop :=
  (∀ (s : State) (b : BranchId) (c : Conduct) (j : Job) (why : StopReason) (tag : Byte) (st : Status), Conducts s b c j →
    c.phase = .stopping why → j.origin = .host tag → j.post = none → s.session = .opened →
    (∀ r, j.route = some r → (s.route r).waiting = none) → s.stopEnds j why st →
    ∃ t : State, exec (.stoppingDone b) s = .next (t.selectIfIdle b) ∧ t.replies = s.replies ++ endReplies j tag st ∧
      (∀ k, t.branch k = if k = b then { s.branch b with
          engine := .idle
          lines := ⟨true, true⟩
          busFree := false
          queue := (s.branch b).queue.filter fun i => i.slot ≠ j.slot }
        else s.branch k) ∧
      (∀ r, j.route ≠ some r → t.route r = s.route r) ∧
      (∀ r, j.route = some r → t.route r = (State.presenceOutcome
        (s.setRoute r { s.route r with jobs := (s.route r).jobs - 1 }) r st j.addressAcked).route r) ∧
      (∀ w, t.watch w = s.watch w) ∧ s.notices <+: t.notices) ∧
  (∀ (s : State) (b : BranchId) (c : Conduct) (j : Job) (at_ : Nat) (r : RouteId) (rc : RouteConfig), Conducts s b c j →
    c.phase = .stopping (.firstRefused at_) → j.state = .active → j.route = some r → (s.route r).config = some rc →
    j.attempts < rc.retries →
    let waits : State := s.setBranch b { s.branch b with
      lines := ⟨true, true⟩
      busFree := false
      queue := (s.branch b).queue.map fun i => if i.slot = j.slot then
          { j with
            state := .retryWait (at_ + rc.retryDelay)
            attempts := j.attempts + 1
            ackedWrites := 0
            readData := []
            addressAcked := false }
        else i }
    ((s.route r).waiting = none → exec (.stoppingDone b) s =
      .next ((waits.setBranch b { waits.branch b with engine := .idle }).selectIfIdle b)) ∧
    let settled := waits.settleWaiting r
    exec (.stoppingDone b) s =
      .next ((settled.setBranch b { settled.branch b with engine := .idle }).selectIfIdle b)) ∧
  (∀ (s : State) (b : BranchId) (c : Conduct) (j : Job) (why : StopReason) (st : Status), Conducts s b c j →
    c.phase = .stopping why → s.stopEnds j why st →
    let t := (s.setBranch b { s.branch b with lines := ⟨true, true⟩, busFree := false }).endOnWires j st
    exec (.stoppingDone b) s = .next ((t.setBranch b { t.branch b with engine := .idle }).selectIfIdle b))

/-- STOPPING_DONE of a posted job or a poll that ends, in OPEN (R54, R72, R73, R106, R123 to R128, R157). It leaves its queue,
its route's JOBS falls, its presence takes the outcome, and no reply is queued. A posted job that ended OK needs nothing
more; one that failed, being the last of its route in the pool, holds the route, and a LATE_FAULT notice is offered. The end
of a poll goes to its watch. Then the engine, IDLE, selects.
The end of any job on the wires, in OPEN or CLOSING (R31, R54, R73, R123, R127, R131, R145, R157), its route having no other
job there. After the first deliveries: of an owed job, and of a posted job that ended OK, nothing more; a posted job that
failed is a late failure in OPEN, with the failure that waited and the jobs merged into it ahead of the purge's discards, and
is counted in DISCARDED_POSTS in CLOSING. A failure that waited is otherwise carried out in OPEN, and counted in CLOSING. The
end of a poll goes to its watch after that. What carrying out does is stated by LateFailureHoldsTheRoute.
Both lines high after the stop is by log 13, and the value of a poll being taken after a waiting late failure by log 10. -/
def Obligations.UnansweredJobsEndAtTheStop : Prop :=
  (∀ (s : State) (b : BranchId) (c : Conduct) (j : Job) (why : StopReason) (st : Status) (r : RouteId), Conducts s b c j →
    c.phase = .stopping why → s.stopEnds j why st →
    s.session = .opened → j.route = some r → (s.route r).waiting = none →
    let left := (s.setBranch b { s.branch b with
      engine := .idle
      lines := ⟨true, true⟩
      busFree := false
      queue := (s.branch b).queue.filter fun i => i.slot ≠ j.slot }).setRoute r
        { s.route r with jobs := (s.route r).jobs - 1 }
    let judged := left.presenceOutcome r st j.addressAcked
    (∀ tag post, j.origin = .host tag → j.post = some post → j.cancelTag = none →
      (st = .ok → exec (.stoppingDone b) s = .next (judged.selectIfIdle b)) ∧
      (st ≠ .ok → (∀ i ∈ s.jobs, i.route = some r → i.slot = j.slot) →
        exec (.stoppingDone b) s = .next (State.selectIfIdle (State.offer
          (judged.setRoute r { judged.route r with hold := some ⟨post, st, 0⟩ })
          (.lateFault r ⟨tag, post, st, j.ackedWrites⟩ ⟨0, none⟩)) b))) ∧
    (∀ w, j.origin = .watch w →
      exec (.stoppingDone b) s = .next ((judged.pollEnds w st j.readData).selectIfIdle b))) ∧
  (∀ (s : State) (b : BranchId) (c : Conduct) (j : Job) (st : Status), Conducts s b c j →
    (s.session = .opened ∨ s.session = .closing) → (j.owedTag = none → j.cancelTag = none) →
    let t := s.delivered j st
    (j.route = none → j.owedTag ≠ none → s.endOnWires j st = t) ∧
    ∀ r, j.route = some r → (∀ i ∈ s.jobs, i.route = some r → i.slot ≠ j.slot → i.onWires = false) →
      (j.owedTag ≠ none → s.endOnWires j st = t.waitingSettled r) ∧
      (∀ tag post, j.origin = .host tag → j.post = some post →
        (st = .ok → s.endOnWires j st = t.waitingSettled r) ∧
        (st ≠ .ok → s.session = .opened → s.endOnWires j st = t.carryOut r ⟨tag, post, st, j.ackedWrites⟩
          (match (s.route r).waiting with
            | none => ⟨0, none⟩
            | some w => ⟨min (w.merged.count + 1) 255,
              some (w.failed.post, (w.merged.span.map Prod.snd).getD w.failed.post)⟩)) ∧
        (st ≠ .ok → s.session = .closing → s.endOnWires j st =
          State.waitingSettled { t with discardedPosts := min (t.discardedPosts + 1) 255 } r)) ∧
      (∀ w, j.origin = .watch w → s.endOnWires j st = (t.waitingSettled r).pollEnds w st j.readData))

/-- STRETCH_INTERVAL_EXPIRES (R94, R96, R108): once STRETCH_LIMIT ms of the release have passed, an owed job ends
STRETCH_TIMEOUT, ENDING or not and whatever its phase, with its progress as it stood, and the engine is RECOVERING in RELEASE,
the clock line being held low. A byte of READING on whose acknowledge bit the interval expires has been received in full, and
is in READ_DATA.
So does any job, in OPEN or in CLOSING: the end is that of a job on the wires, as UnansweredJobsEndAtTheStop has it.
The interval is dated from the clock line being pulled low for the release by log 16, and runs for a fall of the clock in
STOPPING by log 29; the level of the data line is an operand by log 13, and the byte on its acknowledge bit by log 21. -/
def Obligations.StretchTimeoutEndsTheJob : Prop :=
  (∀ (s : State) (b : BranchId) (c : Conduct) (j : Job) (i : Interval) (tag : Byte) (seen : StretchEnd), Conducts s b c j →
    c.stretch = some i → i.since + i.limit ≤ s.now → j.origin = .host tag → j.post = none → s.session = .opened →
    (∀ r, j.route = some r → (s.route r).waiting = none) →
    let full := match c.phase, seen.received with
      | .reading _, some x => { j with readData := j.readData ++ [x] }
      | _, _ => j
    ∃ t : State, exec (.stretchIntervalExpires b seen) s = .next t ∧
      t.replies = s.replies ++ endReplies full tag .stretchTimeout ∧
      (∀ k, t.branch k = if k = b then { s.branch b with
          lines := ⟨false, seen.dataHigh⟩
          busFree := false
          engine := .recovering
            ⟨.stretchTimeout, .release, 0, some ⟨s.now, (s.branch b).config.stretchLimit⟩, none⟩
          queue := (s.branch b).queue.filter fun x => x.slot ≠ j.slot }
        else s.branch k) ∧
      ∀ r, t.route r = if j.route = some r then (State.presenceOutcome
        (s.setRoute r { s.route r with jobs := (s.route r).jobs - 1 }) r .stretchTimeout j.addressAcked).route r
        else s.route r) ∧
  (∀ (s : State) (b : BranchId) (c : Conduct) (j : Job) (i : Interval) (seen : StretchEnd), Conducts s b c j →
    c.stretch = some i → i.since + i.limit ≤ s.now →
    let full := match c.phase, seen.received with
      | .reading _, some x => { j with readData := j.readData ++ [x] }
      | _, _ => j
    let t := (s.setBranch b { s.branch b with lines := ⟨false, seen.dataHigh⟩, busFree := false }).endOnWires full
      .stretchTimeout
    exec (.stretchIntervalExpires b seen) s = .next (t.setBranch b { t.branch b with
      engine := .recovering ⟨.stretchTimeout, .release, 0, some ⟨s.now, (s.branch b).config.stretchLimit⟩, none⟩ }))

/-- CONTRADICTION of an owed job at a point where the engine reads the data line back (R97, R101 to R104, R108). With MULTI
on it is a loss, counted on the branch: before the address acknowledge the job returns to QUEUED in its place, its progress
cleared, unless this is its eighth loss or it is ENDING, when it ends ARB_LOST or with the status of its END_CAUSE; after
it, the job ends ARB_LOST_DATA; and the engine waits for the bus. With MULTI off the job ends BUS_FAULT and a recovery
begins. Where the line is not read back, nothing happens.
So for any job, in OPEN or in CLOSING: an end is that of a job on the wires, as UnansweredJobsEndAtTheStop has it, and a job
that returns to QUEUED frees the wires for a waiting late failure of its route (R127), as WaitingLateFailureIsSettled has it.
The levels of the lines afterwards are by log 13, the first pulse at once by log 14, the points where the line is read back by
log 21, and the clock interval of the first pulse is dated from the engine pulling the clock line low by log 32. -/
def Obligations.ContradictionEndsTheAttempt : Prop :=
  ∀ (s : State) (b : BranchId) (c : Conduct) (j : Job) (received : Byte), Conducts s b c j →
    let br := s.branch b
    let interval : Interval := ⟨s.now, br.config.stretchLimit⟩
    let lost := min (br.arbLossTotal + 1) 65535
    let waiting : Engine := .waitFree (some ⟨.data, interval⟩)
    let recovering : Engine := .recovering ⟨.busFault, .pulsing, 0, some interval, none⟩
    let cleared := { j with arbLosses := j.arbLosses + 1, ackedWrites := 0, readData := [], addressAcked := false }
    let full := match c.phase with
      | .reading _ => { j with readData := j.readData ++ [received] }
      | _ => j
    let left := fun (e : Engine) (total : Nat) (clockHigh : Bool) => { br with
      lines := ⟨clockHigh, false⟩
      busFree := false
      arbLossTotal := total
      engine := e
      queue := br.queue.filter fun i => i.slot ≠ j.slot }
    let contradicted := fun total : Nat => s.setBranch b { br with
      lines := ⟨true, false⟩
      busFree := false
      arbLossTotal := total }
    let address : Byte := match j.route with
      | none => 0x00
      | some r => match (s.route r).config with
        | none => 0x00
        | some rc => BitVec.ofNat 8 (2 * rc.address.toNat + if c.phase = .address true ∨ j.op = .read then 1 else 0)
    let readBack : Prop := match c.phase with
      | .start | .restart | .stopping _ => True
      | .address _ => address ≠ 0x00
      | .writing k => ∃ x, j.writeData[k]? = some x ∧ x ≠ 0x00
      | .reading k => j.readCount ≤ k + 1 ∨ ∃ cause, j.state = .ending cause
    let loses := br.config.multi = true ∧ j.addressAcked = false ∧ j.state = .active ∧ j.arbLosses + 1 < 8
    let ends := fun st : Status => br.config.multi = true ∧ j.addressAcked = false ∧
      (j.state = .active ∧ 8 ≤ j.arbLosses + 1 ∧ st = .arbLost ∨ ∃ cause, j.state = .ending cause ∧ st = cause.status)
    (¬ readBack → exec (.contradiction b received) s = .next s) ∧
    (readBack → ∀ tag, j.origin = .host tag → j.post = none → s.session = .opened →
      (∀ r, j.route = some r → (s.route r).waiting = none) →
      (loses →
        exec (.contradiction b received) s = .next (s.setBranch b { br with
          lines := ⟨true, false⟩
          busFree := false
          arbLossTotal := lost
          engine := waiting
          queue := br.queue.map fun i => if i.slot = j.slot then { cleared with state := .queued } else i })) ∧
      (∀ st, ends st →
        ∃ t : State, exec (.contradiction b received) s = .next t ∧ t.replies = s.replies ++ endReplies cleared tag st ∧
          ∀ k, t.branch k = if k = b then left waiting lost true else s.branch k) ∧
      (br.config.multi = true → j.addressAcked = true →
        ∃ t : State, exec (.contradiction b received) s = .next t ∧
          t.replies = s.replies ++ endReplies full tag .arbLostData ∧
          ∀ k, t.branch k = if k = b then left waiting lost true else s.branch k) ∧
      (br.config.multi = false →
        ∃ t : State, exec (.contradiction b received) s = .next t ∧
          t.replies = s.replies ++ endReplies full tag .busFault ∧
          ∀ k, t.branch k = if k = b then left recovering br.arbLossTotal false else s.branch k)) ∧
    (readBack →
      (loses →
        let requeued := (contradicted lost).setBranch b { (contradicted lost).branch b with
          queue := br.queue.map fun i => if i.slot = j.slot then { cleared with state := .queued } else i }
        let t := match j.route with
          | none => requeued
          | some r => requeued.settleWaiting r
        exec (.contradiction b received) s = .next (t.setBranch b { t.branch b with engine := waiting })) ∧
      (∀ st, ends st →
        let t := (contradicted lost).endOnWires cleared st
        exec (.contradiction b received) s = .next (t.setBranch b { t.branch b with engine := waiting })) ∧
      (br.config.multi = true → j.addressAcked = true →
        let t := (contradicted lost).endOnWires full .arbLostData
        exec (.contradiction b received) s = .next (t.setBranch b { t.branch b with engine := waiting })) ∧
      (br.config.multi = false →
        let t := (contradicted br.arbLossTotal).endOnWires full .busFault
        exec (.contradiction b received) s = .next (t.setBranch b { t.branch b with
          lines := ⟨false, false⟩
          engine := recovering })))

/-! ### Posted writes, polls and notices -/

/-- A posted job that runs out its deadline while it waits, in OPEN, is a late failure (R69, R123 to R125, R127, R128). With
another job of its route on the wires it waits, or is merged into the failure that waits. Otherwise the route is held for
it: its other jobs leave the pool, the owed ones ending ROUTE_HELD in queue order and the posted ones counted in DISCARDED
with the first and the last of their post numbers, and a LATE_FAULT notice is offered. The engine, if IDLE, selects.
Carrying out a late failure, whatever the failed job and the posted jobs merged before (R124, R125, R127, R128): the route is
held for it, and nothing waits; its jobs leave the pool, the owed ones ending ROUTE_HELD in queue order, the posted ones
counted after those merged, stopping at 255, and the polls' POLL_OUT cleared; its JOBS falls by their number; and the
LATE_FAULT notice is offered after that. Nothing else changes. -/
def Obligations.LateFailureHoldsTheRoute : Prop :=
  (∀ (s : State) (j : Job) (tag : Byte) (post : Nat) (r : RouteId) (atBoundary : Bool), PoolLaw s → s.session = .opened →
    j ∈ s.jobs → j.origin = .host tag → j.post = some post → j.route = some r → j.cancelTag = none →
    (j.state = .queued ∨ ∃ at_, j.state = .retryWait at_) → j.deadlineAt ≤ s.now →
    let others := s.jobs.filter fun i => decide (i.route = some r) && decide (i.slot ≠ j.slot)
    let posts := others.filterMap fun i => if i.isHost then i.post else none
    let failed : FailedPost := ⟨tag, post, .deadline, 0⟩
    ((∃ i ∈ others, i.onWires = true) →
      exec (.jobDeadlineExpires j.slot atBoundary) s = .next (((s.setBranch j.branch
        { s.branch j.branch with queue := (s.branch j.branch).queue.filter fun i => i.slot ≠ j.slot }).setRoute r
          { s.route r with
            jobs := (s.route r).jobs - 1
            waiting := match (s.route r).waiting with
              | none => some ⟨failed, ⟨0, none⟩⟩
              | some w => some ⟨w.failed, ⟨min (w.merged.count + 1) 255, match w.merged.span with
                | none => some (post, post)
                | some (first, _) => some (first, post)⟩⟩ }).selectIfIdle j.branch)) ∧
    ((∀ i ∈ others, i.onWires = false ∧ i.cancelTag = none) → (s.route r).waiting = none →
      ∃ t : State, exec (.jobDeadlineExpires j.slot atBoundary) s = .next (t.selectIfIdle j.branch) ∧
        (t.route r).hold = some ⟨post, .deadline, posts.length⟩ ∧
        t.jobs = s.jobs.filter (fun i => decide (i.route ≠ some r)) ∧
        t.replies = s.replies ++ (others.flatMap fun i => match i.owedTag with
          | none => []
          | some owed => endReplies i.withoutProgress owed .routeHeld) ∧
        t.notices = noticesAfterOffer s (.lateFault r failed ⟨posts.length,
          match posts.head?, posts.getLast? with
          | some first, some last => some (first, last)
          | _, _ => none⟩) ∧
        (∀ w, (∃ i ∈ others, i.origin = .watch w) → (t.watch w).pollOut = false) ∧
        (∀ q, q ≠ r → t.route q = s.route q))) ∧
  (∀ (s : State) (r : RouteId) (f : FailedPost) (d : Discards), PoolLaw s → s.session = .opened → d.count ≤ 255 →
    (∀ i ∈ s.jobs, i.route = some r → i.onWires = false ∧ i.cancelTag = none) →
    let purged := s.jobs.filter fun i => decide (i.route = some r)
    let posts := purged.filterMap fun i => if i.isHost then i.post else none
    let discards : Discards := ⟨min (d.count + posts.length) 255,
      match d.span, posts.head?, posts.getLast? with
      | none, some first, some last => some (first, last)
      | some (first, _), some _, some last => some (first, last)
      | span, _, _ => span⟩
    let t := s.carryOut r f d
    t = State.afterOffer { s with
        replies := s.replies ++ (purged.flatMap fun i => match i.owedTag with
          | none => []
          | some owed => endReplies i.withoutProgress owed .routeHeld)
        routes := t.routes
        branches := t.branches
        watches := t.watches } (.lateFault r f discards) ∧
      t.route r = { s.route r with
        hold := some ⟨f.post, f.status, discards.count⟩
        waiting := none
        jobs := (s.route r).jobs - purged.length } ∧
      (∀ q, q ≠ r → t.route q = s.route q) ∧
      (∀ b, t.branch b = { s.branch b with
        queue := (s.branch b).queue.filter fun i => decide (i.route ≠ some r) }) ∧
      ∀ w, t.watch w = { s.watch w with
        pollOut := (s.watch w).pollOut && !purged.any fun i => decide (i.origin = .watch w) })

/-- WAITING_LATE_FAILURE_CARRIED_OUT (R127): with no failure waiting, or a job of the route on the wires, nothing. In
CLOSING the failure and each job merged into it are counted in DISCARDED_POSTS and no hold is set. In OPEN, with no job of
the route in the pool, the route is held for it with the merged jobs in DISCARDED, and a LATE_FAULT notice is offered; with
jobs of the route waiting they are purged, as LateFailureHoldsTheRoute has it, and the branch's engine, if IDLE, selects.
What the events that free the wires do to a waiting failure, through `settleWaiting`, is the same: nothing with none waiting
or a job of the route on the wires, and otherwise what `waitingSettled` says.
Where nothing happens, it is by log 1 and log 10. -/
def Obligations.WaitingLateFailureIsSettled : Prop :=
  (∀ (s : State) (r : RouteId),
    (((s.route r).waiting = none ∨ ∃ j ∈ s.jobs, j.route = some r ∧ j.onWires = true) →
      exec (.waitingLateFailureCarriedOut r) s = .next s) ∧
    ∀ w, (s.route r).waiting = some w → (∀ j ∈ s.jobs, j.route ≠ some r) → (s.route r).config = none ∨
        (∃ rc, (s.route r).config = some rc ∧ (s.branch rc.branch).engine ≠ .idle) →
      (s.session = .closing → exec (.waitingLateFailureCarriedOut r) s = .next
        { s.setRoute r { s.route r with waiting := none } with
          discardedPosts := min (s.discardedPosts + (1 + w.merged.count)) 255 }) ∧
      (s.session = .opened → ∃ t : State, exec (.waitingLateFailureCarriedOut r) s = .next t ∧
        t = { s.setRoute r { s.route r with
            waiting := none, hold := some ⟨w.failed.post, w.failed.status, w.merged.count⟩ } with
          notices := noticesAfterOffer s (.lateFault r w.failed w.merged)
          nextSeq := t.nextSeq
          dropped := t.dropped
          attnLow := t.attnLow })) ∧
  (∀ (s : State) (r : RouteId),
    (((s.route r).waiting = none ∨ ∃ j ∈ s.jobs, j.route = some r ∧ j.onWires = true) → s.settleWaiting r = s) ∧
    ((∀ j ∈ s.jobs, j.route = some r → j.onWires = false) →
      s.settleWaiting r = s.waitingSettled r ∧
      ∀ w rc, (s.route r).waiting = some w → (s.route r).config = some rc →
        exec (.waitingLateFailureCarriedOut r) s = .next ((s.waitingSettled r).selectIfIdle rc.branch)))

/-- The end of a poll (R157, R158): POLL_OUT is cleared. In OPEN the value of an OK poll is stored, and a change that the
masks ask for, or a first value with REPORT_FIRST, is offered with the watch's MISSED; a value that differs outside the masks
alone, any other status, and the end in CLOSING offer nothing. A bit of the changed mask is set exactly if it rose and is in
RISE_MASK, or fell and is in FALL_MASK. -/
def Obligations.PollValueIsCompared : Prop :=
  (∀ (s : State) (w : WatchId) (c : WatchConfig) (st : Status) (value : List Byte), (s.watch w).config = some c →
    let stored := s.setWatch w { s.watch w with pollOut := false, lastValue := some value }
    ((s.session ≠ .opened ∨ st ≠ .ok) →
      s.pollEnds w st value = s.setWatch w { s.watch w with pollOut := false }) ∧
    (s.session = .opened → st = .ok → (s.watch w).lastValue = none →
      s.pollEnds w st value = if c.reportFirst then stored.offerChange ⟨w, (s.watch w).generation, c.route, none, value,
        List.replicate c.length 0, 1, (s.watch w).missed⟩ else stored) ∧
    (∀ old, s.session = .opened → st = .ok → (s.watch w).lastValue = some old →
      let mask := changedMask old value c.riseMask c.fallMask
      s.pollEnds w st value = if ∃ m ∈ mask, m ≠ 0 then stored.offerChange ⟨w, (s.watch w).generation, c.route,
        some old, value, mask, 1, (s.watch w).missed⟩ else stored)) ∧
  (∀ (old new rise fall : List Byte) (k : Nat) (o n r f : Byte) (i : Nat), old[k]? = some o → new[k]? = some n →
    rise[k]? = some r → fall[k]? = some f →
    ∃ m, (changedMask old new rise fall)[k]? = some m ∧
      m.getLsbD i = ((!o.getLsbD i && n.getLsbD i && r.getLsbD i) || (o.getLsbD i && !n.getLsbD i && f.getLsbD i)))

/-- An offer (R159, R163 to R165, R169): outside OPEN it is discarded. A CHANGE is merged into the watch's waiting unsealed
CHANGE even when the queue is full, in its place and with its SEQ. Otherwise, with 16 notices waiting, it is dropped and
counted, and the watch's MISSED is kept; else it joins the tail with the next SEQ and the drops before it, and the watch's
MISSED has been handed on. -/
def Obligations.ChangeIsMergedDroppedOrEnqueued : Prop :=
  ∀ (s : State) (x : ChangeBody),
    let open_ := fun n : Notice => ∃ y, n.body = .change y ∧ n.sealed = false ∧ y.watch = x.watch
    let handedOn := { s.watch x.watch with missed := 0 }
    (s.session ≠ .opened → s.offerChange x = s) ∧
    (s.session = .opened → (∃ n ∈ s.notices, open_ n) →
      s.offerChange x = State.setWatch { s with
        notices := s.notices.map fun n => match n.body with
          | .change y => if n.sealed = false ∧ y.watch = x.watch then
              { n with body := .change { y with
                new := x.new
                changed := List.zipWith (· ||| ·) y.changed x.changed
                merges := min (y.merges + 1) 255
                missed := min (y.missed + x.missed) 255 } } else n
          | _ => n } x.watch handedOn) ∧
    (s.session = .opened → (∀ n ∈ s.notices, ¬ open_ n) → 16 ≤ s.notices.length →
      s.offerChange x = { s with dropped := min (s.dropped + 1) 255 }) ∧
    (s.session = .opened → (∀ n ∈ s.notices, ¬ open_ n) → s.notices.length < 16 →
      s.offerChange x = State.setWatch { s with
        notices := s.notices ++ [⟨s.nextSeq, s.dropped, false, .change x⟩]
        nextSeq := if s.nextSeq < 65535 then s.nextSeq + 1 else 1
        dropped := 0
        attnLow := decide (s.credits = 0) } x.watch handedOn)

/-! ### Laws every step keeps -/

/-- The laws hold right after reset. -/
def Obligations.LawsHoldAtReset : Prop :=
  AttnLaw State.reset ∧ NoticeLaw State.reset ∧ LinkLaw State.reset ∧ UniqueDevices State.reset ∧
    StreakLaw State.reset ∧ WatchLaw State.reset ∧ SessionLaw State.reset ∧ RestartLaw State.reset ∧
    PoolLaw State.reset ∧ ReplyLaw State.reset ∧ EngineLaw State.reset

/-- ATTN is low exactly in OPEN with a notice waiting and no credit (R169), and every step keeps it so. -/
def Obligations.EveryStepKeepsAttn : Prop :=
  ∀ s t : State, AttnLaw s → step s = .next t → AttnLaw t

/-- The notice queue never holds more than 16 notices, and never more than one unsealed CHANGE notice per watch (R161), and
credits never exceed 64 (R167). -/
def Obligations.EveryStepKeepsTheNoticeLaw : Prop :=
  ∀ s t : State, NoticeLaw s → step s = .next t → NoticeLaw t

/-- The receive queue never holds more than 4 frames (R10), nor a link counter more than 65535 (R11). -/
def Obligations.EveryStepKeepsTheLinkLaw : Prop :=
  ∀ s t : State, LinkLaw s → step s = .next t → LinkLaw t

/-- No two configured routes share both BRANCH and ADDRESS (R45); each streak lies between 0 and 8, and at most one of the
two is above 0 (R136); and every watch's ROUTE names a configured route (R50). -/
def Obligations.EveryStepKeepsTheTableLaws : Prop :=
  ∀ s t : State, step s = .next t →
    (UniqueDevices s → UniqueDevices t) ∧ (StreakLaw s → StreakLaw t) ∧ (WatchLaw s → WatchLaw t)

/-- Outside OPEN no watch is armed, and in CLOSED the pool holds no job (R18); and at most one RESTART is on its way, with
the session CLOSED and intake stopped from its reply to its effects (R34). -/
def Obligations.EveryStepKeepsTheSessionLaw : Prop :=
  ∀ s t : State, SessionLaw s → RestartLaw s → step s = .next t → SessionLaw t ∧ RestartLaw t

/-- Every job stands in the queue of its branch, no slot is taken twice, and at most 20 host jobs are in the pool (R58,
R64). -/
def Obligations.EveryStepKeepsThePoolLaw : Prop :=
  ∀ s t : State, PoolLaw s → step s = .next t → PoolLaw t

/-- The number of replies waiting in the reply queue plus the number of owed replies never exceeds 32 (R19). -/
def Obligations.EveryStepKeepsTheReplyLaw : Prop :=
  ∀ s t : State, PoolLaw s → ReplyLaw s → step s = .next t → ReplyLaw t

/-- No branch queue holds a job ACTIVE or ENDING but the one its engine conducts (R64, R68), and an ACTIVE engine conducts a
job of its queue (R85). -/
def Obligations.EveryStepKeepsTheEngineLaw : Prop :=
  ∀ s t : State, PoolLaw s → SessionLaw s → RestartLaw s → EngineLaw s → step s = .next t → EngineLaw t
end

