-- ==== Sys2Proof/Laws/State.lean ====
section
/-! SUPPORT. The fields of the state under each primitive update, and the reads of the tables: one lemma each. -/

namespace Sys2Proof.Machine

/-! ### The tables -/

@[simp] theorem mapTable_getElem {α β : Type} {n : Nat} (f : α → β) (v : Vector α n) (i : Nat) (h : i < n) :
    (mapTable f v)[i] = f v[i] := by simp [mapTable]

@[simp] theorem mapTable_toList {α β : Type} {n : Nat} (f : α → β) (v : Vector α n) :
    (mapTable f v).toList = v.toList.map f := rfl

theorem State.route_eq (s : State) (i : RouteId) : s.route i = s.routes[i] := rfl

theorem State.route_setRoute (s : State) (i k : RouteId) (v : Route) :
    (s.setRoute i v).route k = if i = k then v else s.route k := by
  simp only [State.route, State.setRoute, Fin.getElem_fin, Vector.getElem_set, Fin.ext_iff]

@[simp] theorem State.route_setRoute_self (s : State) (i : RouteId) (v : Route) : (s.setRoute i v).route i = v := by
  simp [State.route_setRoute]

theorem State.branch_eq (s : State) (i : BranchId) : s.branch i = s.branches[i] := rfl

theorem State.branch_setBranch (s : State) (i k : BranchId) (v : Branch) :
    (s.setBranch i v).branch k = if i = k then v else s.branch k := by
  simp only [State.branch, State.setBranch, Fin.getElem_fin, Vector.getElem_set, Fin.ext_iff]

@[simp] theorem State.branch_setBranch_self (s : State) (i : BranchId) (v : Branch) :
    (s.setBranch i v).branch i = v := by
  simp [State.branch_setBranch]

theorem State.watch_eq (s : State) (i : WatchId) : s.watch i = s.watches[i] := rfl

theorem State.watch_setWatch (s : State) (i k : WatchId) (v : Watch) :
    (s.setWatch i v).watch k = if i = k then v else s.watch k := by
  simp only [State.watch, State.setWatch, Fin.getElem_fin, Vector.getElem_set, Fin.ext_iff]

@[simp] theorem State.watch_setWatch_self (s : State) (i : WatchId) (v : Watch) : (s.setWatch i v).watch i = v := by
  simp [State.watch_setWatch]

theorem State.pendingReset_eq (s : State) (i : BranchId) : s.pendingReset i = s.pendingResets[i] := rfl

theorem State.pendingReset_setPendingReset (s : State) (i k : BranchId) (v : Option Byte) :
    (s.setPendingReset i v).pendingReset k = if i = k then v else s.pendingReset k := by
  simp only [State.pendingReset, State.setPendingReset, Fin.getElem_fin, Vector.getElem_set, Fin.ext_iff]

@[simp] theorem State.pendingReset_setPendingReset_self (s : State) (i : BranchId) (v : Option Byte) :
    (s.setPendingReset i v).pendingReset i = v := by
  simp [State.pendingReset_setPendingReset]

theorem State.branch_setEngine (s : State) (b k : BranchId) (e : Engine) :
    (s.setEngine b e).branch k = if b = k then { s.branch b with engine := e } else s.branch k :=
  State.branch_setBranch s b k _

@[simp] theorem State.driveAttn_attnLow (s : State) :
    s.driveAttn.attnLow = (s.session == .opened && !s.notices.isEmpty && s.credits == 0) := rfl

@[simp] theorem State.pushReply_replies (s : State) (f : Frame) : (s.pushReply f).replies = s.replies ++ [f] := rfl

/-! ### setRoute -/

@[simp] theorem State.setRoute_now (s : State) (r : RouteId) (v : Route) : (s.setRoute r v).now = s.now := rfl
@[simp] theorem State.setRoute_linkSpeed (s : State) (r : RouteId) (v : Route) :
    (s.setRoute r v).linkSpeed = s.linkSpeed := rfl
@[simp] theorem State.setRoute_receiver (s : State) (r : RouteId) (v : Route) :
    (s.setRoute r v).receiver = s.receiver := rfl
@[simp] theorem State.setRoute_rxQueue (s : State) (r : RouteId) (v : Route) :
    (s.setRoute r v).rxQueue = s.rxQueue := rfl
@[simp] theorem State.setRoute_counters (s : State) (r : RouteId) (v : Route) :
    (s.setRoute r v).counters = s.counters := rfl
@[simp] theorem State.setRoute_replies (s : State) (r : RouteId) (v : Route) :
    (s.setRoute r v).replies = s.replies := rfl
@[simp] theorem State.setRoute_transmitting (s : State) (r : RouteId) (v : Route) :
    (s.setRoute r v).transmitting = s.transmitting := rfl
@[simp] theorem State.setRoute_bootPending (s : State) (r : RouteId) (v : Route) :
    (s.setRoute r v).bootPending = s.bootPending := rfl
@[simp] theorem State.setRoute_powerOnFlag (s : State) (r : RouteId) (v : Route) :
    (s.setRoute r v).powerOnFlag = s.powerOnFlag := rfl
@[simp] theorem State.setRoute_session (s : State) (r : RouteId) (v : Route) :
    (s.setRoute r v).session = s.session := rfl
@[simp] theorem State.setRoute_taking (s : State) (r : RouteId) (v : Route) :
    (s.setRoute r v).taking = s.taking := rfl
@[simp] theorem State.setRoute_pendingClose (s : State) (r : RouteId) (v : Route) :
    (s.setRoute r v).pendingClose = s.pendingClose := rfl
@[simp] theorem State.setRoute_pendingRestart (s : State) (r : RouteId) (v : Route) :
    (s.setRoute r v).pendingRestart = s.pendingRestart := rfl
@[simp] theorem State.setRoute_pendingResets (s : State) (r : RouteId) (v : Route) :
    (s.setRoute r v).pendingResets = s.pendingResets := rfl
@[simp] theorem State.setRoute_intakeStopped (s : State) (r : RouteId) (v : Route) :
    (s.setRoute r v).intakeStopped = s.intakeStopped := rfl
@[simp] theorem State.setRoute_restartSent (s : State) (r : RouteId) (v : Route) :
    (s.setRoute r v).restartSent = s.restartSent := rfl
@[simp] theorem State.setRoute_cancelledJobs (s : State) (r : RouteId) (v : Route) :
    (s.setRoute r v).cancelledJobs = s.cancelledJobs := rfl
@[simp] theorem State.setRoute_discardedPosts (s : State) (r : RouteId) (v : Route) :
    (s.setRoute r v).discardedPosts = s.discardedPosts := rfl
@[simp] theorem State.setRoute_branches (s : State) (r : RouteId) (v : Route) :
    (s.setRoute r v).branches = s.branches := rfl
@[simp] theorem State.setRoute_watches (s : State) (r : RouteId) (v : Route) :
    (s.setRoute r v).watches = s.watches := rfl
@[simp] theorem State.setRoute_notices (s : State) (r : RouteId) (v : Route) :
    (s.setRoute r v).notices = s.notices := rfl
@[simp] theorem State.setRoute_credits (s : State) (r : RouteId) (v : Route) :
    (s.setRoute r v).credits = s.credits := rfl
@[simp] theorem State.setRoute_nextSeq (s : State) (r : RouteId) (v : Route) :
    (s.setRoute r v).nextSeq = s.nextSeq := rfl
@[simp] theorem State.setRoute_dropped (s : State) (r : RouteId) (v : Route) :
    (s.setRoute r v).dropped = s.dropped := rfl
@[simp] theorem State.setRoute_attnLow (s : State) (r : RouteId) (v : Route) :
    (s.setRoute r v).attnLow = s.attnLow := rfl
@[simp] theorem State.setRoute_pending (s : State) (r : RouteId) (v : Route) :
    (s.setRoute r v).pending = s.pending := rfl
@[simp] theorem State.setRoute_branch (s : State) (r : RouteId) (v : Route) (b' : BranchId) :
    (s.setRoute r v).branch b' = s.branch b' := rfl
@[simp] theorem State.setRoute_watch (s : State) (r : RouteId) (v : Route) (w' : WatchId) :
    (s.setRoute r v).watch w' = s.watch w' := rfl
@[simp] theorem State.setRoute_pendingReset (s : State) (r : RouteId) (v : Route) (b' : BranchId) :
    (s.setRoute r v).pendingReset b' = s.pendingReset b' := rfl

/-! ### setBranch -/

@[simp] theorem State.setBranch_now (s : State) (b : BranchId) (v : Branch) : (s.setBranch b v).now = s.now := rfl
@[simp] theorem State.setBranch_linkSpeed (s : State) (b : BranchId) (v : Branch) :
    (s.setBranch b v).linkSpeed = s.linkSpeed := rfl
@[simp] theorem State.setBranch_receiver (s : State) (b : BranchId) (v : Branch) :
    (s.setBranch b v).receiver = s.receiver := rfl
@[simp] theorem State.setBranch_rxQueue (s : State) (b : BranchId) (v : Branch) :
    (s.setBranch b v).rxQueue = s.rxQueue := rfl
@[simp] theorem State.setBranch_counters (s : State) (b : BranchId) (v : Branch) :
    (s.setBranch b v).counters = s.counters := rfl
@[simp] theorem State.setBranch_replies (s : State) (b : BranchId) (v : Branch) :
    (s.setBranch b v).replies = s.replies := rfl
@[simp] theorem State.setBranch_transmitting (s : State) (b : BranchId) (v : Branch) :
    (s.setBranch b v).transmitting = s.transmitting := rfl
@[simp] theorem State.setBranch_bootPending (s : State) (b : BranchId) (v : Branch) :
    (s.setBranch b v).bootPending = s.bootPending := rfl
@[simp] theorem State.setBranch_powerOnFlag (s : State) (b : BranchId) (v : Branch) :
    (s.setBranch b v).powerOnFlag = s.powerOnFlag := rfl
@[simp] theorem State.setBranch_session (s : State) (b : BranchId) (v : Branch) :
    (s.setBranch b v).session = s.session := rfl
@[simp] theorem State.setBranch_taking (s : State) (b : BranchId) (v : Branch) :
    (s.setBranch b v).taking = s.taking := rfl
@[simp] theorem State.setBranch_pendingClose (s : State) (b : BranchId) (v : Branch) :
    (s.setBranch b v).pendingClose = s.pendingClose := rfl
@[simp] theorem State.setBranch_pendingRestart (s : State) (b : BranchId) (v : Branch) :
    (s.setBranch b v).pendingRestart = s.pendingRestart := rfl
@[simp] theorem State.setBranch_pendingResets (s : State) (b : BranchId) (v : Branch) :
    (s.setBranch b v).pendingResets = s.pendingResets := rfl
@[simp] theorem State.setBranch_intakeStopped (s : State) (b : BranchId) (v : Branch) :
    (s.setBranch b v).intakeStopped = s.intakeStopped := rfl
@[simp] theorem State.setBranch_restartSent (s : State) (b : BranchId) (v : Branch) :
    (s.setBranch b v).restartSent = s.restartSent := rfl
@[simp] theorem State.setBranch_cancelledJobs (s : State) (b : BranchId) (v : Branch) :
    (s.setBranch b v).cancelledJobs = s.cancelledJobs := rfl
@[simp] theorem State.setBranch_discardedPosts (s : State) (b : BranchId) (v : Branch) :
    (s.setBranch b v).discardedPosts = s.discardedPosts := rfl
@[simp] theorem State.setBranch_routes (s : State) (b : BranchId) (v : Branch) :
    (s.setBranch b v).routes = s.routes := rfl
@[simp] theorem State.setBranch_watches (s : State) (b : BranchId) (v : Branch) :
    (s.setBranch b v).watches = s.watches := rfl
@[simp] theorem State.setBranch_notices (s : State) (b : BranchId) (v : Branch) :
    (s.setBranch b v).notices = s.notices := rfl
@[simp] theorem State.setBranch_credits (s : State) (b : BranchId) (v : Branch) :
    (s.setBranch b v).credits = s.credits := rfl
@[simp] theorem State.setBranch_nextSeq (s : State) (b : BranchId) (v : Branch) :
    (s.setBranch b v).nextSeq = s.nextSeq := rfl
@[simp] theorem State.setBranch_dropped (s : State) (b : BranchId) (v : Branch) :
    (s.setBranch b v).dropped = s.dropped := rfl
@[simp] theorem State.setBranch_attnLow (s : State) (b : BranchId) (v : Branch) :
    (s.setBranch b v).attnLow = s.attnLow := rfl
@[simp] theorem State.setBranch_pending (s : State) (b : BranchId) (v : Branch) :
    (s.setBranch b v).pending = s.pending := rfl
@[simp] theorem State.setBranch_route (s : State) (b : BranchId) (v : Branch) (r' : RouteId) :
    (s.setBranch b v).route r' = s.route r' := rfl
@[simp] theorem State.setBranch_watch (s : State) (b : BranchId) (v : Branch) (w' : WatchId) :
    (s.setBranch b v).watch w' = s.watch w' := rfl
@[simp] theorem State.setBranch_pendingReset (s : State) (b : BranchId) (v : Branch) (b' : BranchId) :
    (s.setBranch b v).pendingReset b' = s.pendingReset b' := rfl

/-! ### setWatch -/

@[simp] theorem State.setWatch_now (s : State) (w : WatchId) (v : Watch) : (s.setWatch w v).now = s.now := rfl
@[simp] theorem State.setWatch_linkSpeed (s : State) (w : WatchId) (v : Watch) :
    (s.setWatch w v).linkSpeed = s.linkSpeed := rfl
@[simp] theorem State.setWatch_receiver (s : State) (w : WatchId) (v : Watch) :
    (s.setWatch w v).receiver = s.receiver := rfl
@[simp] theorem State.setWatch_rxQueue (s : State) (w : WatchId) (v : Watch) :
    (s.setWatch w v).rxQueue = s.rxQueue := rfl
@[simp] theorem State.setWatch_counters (s : State) (w : WatchId) (v : Watch) :
    (s.setWatch w v).counters = s.counters := rfl
@[simp] theorem State.setWatch_replies (s : State) (w : WatchId) (v : Watch) :
    (s.setWatch w v).replies = s.replies := rfl
@[simp] theorem State.setWatch_transmitting (s : State) (w : WatchId) (v : Watch) :
    (s.setWatch w v).transmitting = s.transmitting := rfl
@[simp] theorem State.setWatch_bootPending (s : State) (w : WatchId) (v : Watch) :
    (s.setWatch w v).bootPending = s.bootPending := rfl
@[simp] theorem State.setWatch_powerOnFlag (s : State) (w : WatchId) (v : Watch) :
    (s.setWatch w v).powerOnFlag = s.powerOnFlag := rfl
@[simp] theorem State.setWatch_session (s : State) (w : WatchId) (v : Watch) :
    (s.setWatch w v).session = s.session := rfl
@[simp] theorem State.setWatch_taking (s : State) (w : WatchId) (v : Watch) :
    (s.setWatch w v).taking = s.taking := rfl
@[simp] theorem State.setWatch_pendingClose (s : State) (w : WatchId) (v : Watch) :
    (s.setWatch w v).pendingClose = s.pendingClose := rfl
@[simp] theorem State.setWatch_pendingRestart (s : State) (w : WatchId) (v : Watch) :
    (s.setWatch w v).pendingRestart = s.pendingRestart := rfl
@[simp] theorem State.setWatch_pendingResets (s : State) (w : WatchId) (v : Watch) :
    (s.setWatch w v).pendingResets = s.pendingResets := rfl
@[simp] theorem State.setWatch_intakeStopped (s : State) (w : WatchId) (v : Watch) :
    (s.setWatch w v).intakeStopped = s.intakeStopped := rfl
@[simp] theorem State.setWatch_restartSent (s : State) (w : WatchId) (v : Watch) :
    (s.setWatch w v).restartSent = s.restartSent := rfl
@[simp] theorem State.setWatch_cancelledJobs (s : State) (w : WatchId) (v : Watch) :
    (s.setWatch w v).cancelledJobs = s.cancelledJobs := rfl
@[simp] theorem State.setWatch_discardedPosts (s : State) (w : WatchId) (v : Watch) :
    (s.setWatch w v).discardedPosts = s.discardedPosts := rfl
@[simp] theorem State.setWatch_routes (s : State) (w : WatchId) (v : Watch) :
    (s.setWatch w v).routes = s.routes := rfl
@[simp] theorem State.setWatch_branches (s : State) (w : WatchId) (v : Watch) :
    (s.setWatch w v).branches = s.branches := rfl
@[simp] theorem State.setWatch_notices (s : State) (w : WatchId) (v : Watch) :
    (s.setWatch w v).notices = s.notices := rfl
@[simp] theorem State.setWatch_credits (s : State) (w : WatchId) (v : Watch) :
    (s.setWatch w v).credits = s.credits := rfl
@[simp] theorem State.setWatch_nextSeq (s : State) (w : WatchId) (v : Watch) :
    (s.setWatch w v).nextSeq = s.nextSeq := rfl
@[simp] theorem State.setWatch_dropped (s : State) (w : WatchId) (v : Watch) :
    (s.setWatch w v).dropped = s.dropped := rfl
@[simp] theorem State.setWatch_attnLow (s : State) (w : WatchId) (v : Watch) :
    (s.setWatch w v).attnLow = s.attnLow := rfl
@[simp] theorem State.setWatch_pending (s : State) (w : WatchId) (v : Watch) :
    (s.setWatch w v).pending = s.pending := rfl
@[simp] theorem State.setWatch_route (s : State) (w : WatchId) (v : Watch) (r' : RouteId) :
    (s.setWatch w v).route r' = s.route r' := rfl
@[simp] theorem State.setWatch_branch (s : State) (w : WatchId) (v : Watch) (b' : BranchId) :
    (s.setWatch w v).branch b' = s.branch b' := rfl
@[simp] theorem State.setWatch_pendingReset (s : State) (w : WatchId) (v : Watch) (b' : BranchId) :
    (s.setWatch w v).pendingReset b' = s.pendingReset b' := rfl

/-! ### setPendingReset -/

@[simp] theorem State.setPendingReset_now (s : State) (b : BranchId) (v : Option Byte) :
    (s.setPendingReset b v).now = s.now := rfl
@[simp] theorem State.setPendingReset_linkSpeed (s : State) (b : BranchId) (v : Option Byte) :
    (s.setPendingReset b v).linkSpeed = s.linkSpeed := rfl
@[simp] theorem State.setPendingReset_receiver (s : State) (b : BranchId) (v : Option Byte) :
    (s.setPendingReset b v).receiver = s.receiver := rfl
@[simp] theorem State.setPendingReset_rxQueue (s : State) (b : BranchId) (v : Option Byte) :
    (s.setPendingReset b v).rxQueue = s.rxQueue := rfl
@[simp] theorem State.setPendingReset_counters (s : State) (b : BranchId) (v : Option Byte) :
    (s.setPendingReset b v).counters = s.counters := rfl
@[simp] theorem State.setPendingReset_replies (s : State) (b : BranchId) (v : Option Byte) :
    (s.setPendingReset b v).replies = s.replies := rfl
@[simp] theorem State.setPendingReset_transmitting (s : State) (b : BranchId) (v : Option Byte) :
    (s.setPendingReset b v).transmitting = s.transmitting := rfl
@[simp] theorem State.setPendingReset_bootPending (s : State) (b : BranchId) (v : Option Byte) :
    (s.setPendingReset b v).bootPending = s.bootPending := rfl
@[simp] theorem State.setPendingReset_powerOnFlag (s : State) (b : BranchId) (v : Option Byte) :
    (s.setPendingReset b v).powerOnFlag = s.powerOnFlag := rfl
@[simp] theorem State.setPendingReset_session (s : State) (b : BranchId) (v : Option Byte) :
    (s.setPendingReset b v).session = s.session := rfl
@[simp] theorem State.setPendingReset_taking (s : State) (b : BranchId) (v : Option Byte) :
    (s.setPendingReset b v).taking = s.taking := rfl
@[simp] theorem State.setPendingReset_pendingClose (s : State) (b : BranchId) (v : Option Byte) :
    (s.setPendingReset b v).pendingClose = s.pendingClose := rfl
@[simp] theorem State.setPendingReset_pendingRestart (s : State) (b : BranchId) (v : Option Byte) :
    (s.setPendingReset b v).pendingRestart = s.pendingRestart := rfl
@[simp] theorem State.setPendingReset_intakeStopped (s : State) (b : BranchId) (v : Option Byte) :
    (s.setPendingReset b v).intakeStopped = s.intakeStopped := rfl
@[simp] theorem State.setPendingReset_restartSent (s : State) (b : BranchId) (v : Option Byte) :
    (s.setPendingReset b v).restartSent = s.restartSent := rfl
@[simp] theorem State.setPendingReset_cancelledJobs (s : State) (b : BranchId) (v : Option Byte) :
    (s.setPendingReset b v).cancelledJobs = s.cancelledJobs := rfl
@[simp] theorem State.setPendingReset_discardedPosts (s : State) (b : BranchId) (v : Option Byte) :
    (s.setPendingReset b v).discardedPosts = s.discardedPosts := rfl
@[simp] theorem State.setPendingReset_routes (s : State) (b : BranchId) (v : Option Byte) :
    (s.setPendingReset b v).routes = s.routes := rfl
@[simp] theorem State.setPendingReset_branches (s : State) (b : BranchId) (v : Option Byte) :
    (s.setPendingReset b v).branches = s.branches := rfl
@[simp] theorem State.setPendingReset_watches (s : State) (b : BranchId) (v : Option Byte) :
    (s.setPendingReset b v).watches = s.watches := rfl
@[simp] theorem State.setPendingReset_notices (s : State) (b : BranchId) (v : Option Byte) :
    (s.setPendingReset b v).notices = s.notices := rfl
@[simp] theorem State.setPendingReset_credits (s : State) (b : BranchId) (v : Option Byte) :
    (s.setPendingReset b v).credits = s.credits := rfl
@[simp] theorem State.setPendingReset_nextSeq (s : State) (b : BranchId) (v : Option Byte) :
    (s.setPendingReset b v).nextSeq = s.nextSeq := rfl
@[simp] theorem State.setPendingReset_dropped (s : State) (b : BranchId) (v : Option Byte) :
    (s.setPendingReset b v).dropped = s.dropped := rfl
@[simp] theorem State.setPendingReset_attnLow (s : State) (b : BranchId) (v : Option Byte) :
    (s.setPendingReset b v).attnLow = s.attnLow := rfl
@[simp] theorem State.setPendingReset_pending (s : State) (b : BranchId) (v : Option Byte) :
    (s.setPendingReset b v).pending = s.pending := rfl
@[simp] theorem State.setPendingReset_route (s : State) (b : BranchId) (v : Option Byte) (r' : RouteId) :
    (s.setPendingReset b v).route r' = s.route r' := rfl
@[simp] theorem State.setPendingReset_branch (s : State) (b : BranchId) (v : Option Byte) (b' : BranchId) :
    (s.setPendingReset b v).branch b' = s.branch b' := rfl
@[simp] theorem State.setPendingReset_watch (s : State) (b : BranchId) (v : Option Byte) (w' : WatchId) :
    (s.setPendingReset b v).watch w' = s.watch w' := rfl

/-! ### setEngine -/

@[simp] theorem State.setEngine_now (s : State) (b : BranchId) (e : Engine) : (s.setEngine b e).now = s.now := rfl
@[simp] theorem State.setEngine_linkSpeed (s : State) (b : BranchId) (e : Engine) :
    (s.setEngine b e).linkSpeed = s.linkSpeed := rfl
@[simp] theorem State.setEngine_receiver (s : State) (b : BranchId) (e : Engine) :
    (s.setEngine b e).receiver = s.receiver := rfl
@[simp] theorem State.setEngine_rxQueue (s : State) (b : BranchId) (e : Engine) :
    (s.setEngine b e).rxQueue = s.rxQueue := rfl
@[simp] theorem State.setEngine_counters (s : State) (b : BranchId) (e : Engine) :
    (s.setEngine b e).counters = s.counters := rfl
@[simp] theorem State.setEngine_replies (s : State) (b : BranchId) (e : Engine) :
    (s.setEngine b e).replies = s.replies := rfl
@[simp] theorem State.setEngine_transmitting (s : State) (b : BranchId) (e : Engine) :
    (s.setEngine b e).transmitting = s.transmitting := rfl
@[simp] theorem State.setEngine_bootPending (s : State) (b : BranchId) (e : Engine) :
    (s.setEngine b e).bootPending = s.bootPending := rfl
@[simp] theorem State.setEngine_powerOnFlag (s : State) (b : BranchId) (e : Engine) :
    (s.setEngine b e).powerOnFlag = s.powerOnFlag := rfl
@[simp] theorem State.setEngine_session (s : State) (b : BranchId) (e : Engine) :
    (s.setEngine b e).session = s.session := rfl
@[simp] theorem State.setEngine_taking (s : State) (b : BranchId) (e : Engine) :
    (s.setEngine b e).taking = s.taking := rfl
@[simp] theorem State.setEngine_pendingClose (s : State) (b : BranchId) (e : Engine) :
    (s.setEngine b e).pendingClose = s.pendingClose := rfl
@[simp] theorem State.setEngine_pendingRestart (s : State) (b : BranchId) (e : Engine) :
    (s.setEngine b e).pendingRestart = s.pendingRestart := rfl
@[simp] theorem State.setEngine_pendingResets (s : State) (b : BranchId) (e : Engine) :
    (s.setEngine b e).pendingResets = s.pendingResets := rfl
@[simp] theorem State.setEngine_intakeStopped (s : State) (b : BranchId) (e : Engine) :
    (s.setEngine b e).intakeStopped = s.intakeStopped := rfl
@[simp] theorem State.setEngine_restartSent (s : State) (b : BranchId) (e : Engine) :
    (s.setEngine b e).restartSent = s.restartSent := rfl
@[simp] theorem State.setEngine_cancelledJobs (s : State) (b : BranchId) (e : Engine) :
    (s.setEngine b e).cancelledJobs = s.cancelledJobs := rfl
@[simp] theorem State.setEngine_discardedPosts (s : State) (b : BranchId) (e : Engine) :
    (s.setEngine b e).discardedPosts = s.discardedPosts := rfl
@[simp] theorem State.setEngine_routes (s : State) (b : BranchId) (e : Engine) :
    (s.setEngine b e).routes = s.routes := rfl
@[simp] theorem State.setEngine_watches (s : State) (b : BranchId) (e : Engine) :
    (s.setEngine b e).watches = s.watches := rfl
@[simp] theorem State.setEngine_notices (s : State) (b : BranchId) (e : Engine) :
    (s.setEngine b e).notices = s.notices := rfl
@[simp] theorem State.setEngine_credits (s : State) (b : BranchId) (e : Engine) :
    (s.setEngine b e).credits = s.credits := rfl
@[simp] theorem State.setEngine_nextSeq (s : State) (b : BranchId) (e : Engine) :
    (s.setEngine b e).nextSeq = s.nextSeq := rfl
@[simp] theorem State.setEngine_dropped (s : State) (b : BranchId) (e : Engine) :
    (s.setEngine b e).dropped = s.dropped := rfl
@[simp] theorem State.setEngine_attnLow (s : State) (b : BranchId) (e : Engine) :
    (s.setEngine b e).attnLow = s.attnLow := rfl
@[simp] theorem State.setEngine_pending (s : State) (b : BranchId) (e : Engine) :
    (s.setEngine b e).pending = s.pending := rfl
@[simp] theorem State.setEngine_route (s : State) (b : BranchId) (e : Engine) (r' : RouteId) :
    (s.setEngine b e).route r' = s.route r' := rfl
@[simp] theorem State.setEngine_watch (s : State) (b : BranchId) (e : Engine) (w' : WatchId) :
    (s.setEngine b e).watch w' = s.watch w' := rfl
@[simp] theorem State.setEngine_pendingReset (s : State) (b : BranchId) (e : Engine) (b' : BranchId) :
    (s.setEngine b e).pendingReset b' = s.pendingReset b' := rfl

/-! ### pushReply -/

@[simp] theorem State.pushReply_now (s : State) (f : Frame) : (s.pushReply f).now = s.now := rfl
@[simp] theorem State.pushReply_linkSpeed (s : State) (f : Frame) : (s.pushReply f).linkSpeed = s.linkSpeed := rfl
@[simp] theorem State.pushReply_receiver (s : State) (f : Frame) : (s.pushReply f).receiver = s.receiver := rfl
@[simp] theorem State.pushReply_rxQueue (s : State) (f : Frame) : (s.pushReply f).rxQueue = s.rxQueue := rfl
@[simp] theorem State.pushReply_counters (s : State) (f : Frame) : (s.pushReply f).counters = s.counters := rfl
@[simp] theorem State.pushReply_transmitting (s : State) (f : Frame) :
    (s.pushReply f).transmitting = s.transmitting := rfl
@[simp] theorem State.pushReply_bootPending (s : State) (f : Frame) :
    (s.pushReply f).bootPending = s.bootPending := rfl
@[simp] theorem State.pushReply_powerOnFlag (s : State) (f : Frame) :
    (s.pushReply f).powerOnFlag = s.powerOnFlag := rfl
@[simp] theorem State.pushReply_session (s : State) (f : Frame) : (s.pushReply f).session = s.session := rfl
@[simp] theorem State.pushReply_taking (s : State) (f : Frame) : (s.pushReply f).taking = s.taking := rfl
@[simp] theorem State.pushReply_pendingClose (s : State) (f : Frame) :
    (s.pushReply f).pendingClose = s.pendingClose := rfl
@[simp] theorem State.pushReply_pendingRestart (s : State) (f : Frame) :
    (s.pushReply f).pendingRestart = s.pendingRestart := rfl
@[simp] theorem State.pushReply_pendingResets (s : State) (f : Frame) :
    (s.pushReply f).pendingResets = s.pendingResets := rfl
@[simp] theorem State.pushReply_intakeStopped (s : State) (f : Frame) :
    (s.pushReply f).intakeStopped = s.intakeStopped := rfl
@[simp] theorem State.pushReply_restartSent (s : State) (f : Frame) :
    (s.pushReply f).restartSent = s.restartSent := rfl
@[simp] theorem State.pushReply_cancelledJobs (s : State) (f : Frame) :
    (s.pushReply f).cancelledJobs = s.cancelledJobs := rfl
@[simp] theorem State.pushReply_discardedPosts (s : State) (f : Frame) :
    (s.pushReply f).discardedPosts = s.discardedPosts := rfl
@[simp] theorem State.pushReply_routes (s : State) (f : Frame) : (s.pushReply f).routes = s.routes := rfl
@[simp] theorem State.pushReply_branches (s : State) (f : Frame) : (s.pushReply f).branches = s.branches := rfl
@[simp] theorem State.pushReply_watches (s : State) (f : Frame) : (s.pushReply f).watches = s.watches := rfl
@[simp] theorem State.pushReply_notices (s : State) (f : Frame) : (s.pushReply f).notices = s.notices := rfl
@[simp] theorem State.pushReply_credits (s : State) (f : Frame) : (s.pushReply f).credits = s.credits := rfl
@[simp] theorem State.pushReply_nextSeq (s : State) (f : Frame) : (s.pushReply f).nextSeq = s.nextSeq := rfl
@[simp] theorem State.pushReply_dropped (s : State) (f : Frame) : (s.pushReply f).dropped = s.dropped := rfl
@[simp] theorem State.pushReply_attnLow (s : State) (f : Frame) : (s.pushReply f).attnLow = s.attnLow := rfl
@[simp] theorem State.pushReply_pending (s : State) (f : Frame) : (s.pushReply f).pending = s.pending := rfl
@[simp] theorem State.pushReply_route (s : State) (f : Frame) (r' : RouteId) :
    (s.pushReply f).route r' = s.route r' := rfl
@[simp] theorem State.pushReply_branch (s : State) (f : Frame) (b' : BranchId) :
    (s.pushReply f).branch b' = s.branch b' := rfl
@[simp] theorem State.pushReply_watch (s : State) (f : Frame) (w' : WatchId) :
    (s.pushReply f).watch w' = s.watch w' := rfl
@[simp] theorem State.pushReply_pendingReset (s : State) (f : Frame) (b' : BranchId) :
    (s.pushReply f).pendingReset b' = s.pendingReset b' := rfl

/-! ### driveAttn -/

@[simp] theorem State.driveAttn_now (s : State) : (s.driveAttn).now = s.now := rfl
@[simp] theorem State.driveAttn_linkSpeed (s : State) : (s.driveAttn).linkSpeed = s.linkSpeed := rfl
@[simp] theorem State.driveAttn_receiver (s : State) : (s.driveAttn).receiver = s.receiver := rfl
@[simp] theorem State.driveAttn_rxQueue (s : State) : (s.driveAttn).rxQueue = s.rxQueue := rfl
@[simp] theorem State.driveAttn_counters (s : State) : (s.driveAttn).counters = s.counters := rfl
@[simp] theorem State.driveAttn_replies (s : State) : (s.driveAttn).replies = s.replies := rfl
@[simp] theorem State.driveAttn_transmitting (s : State) : (s.driveAttn).transmitting = s.transmitting := rfl
@[simp] theorem State.driveAttn_bootPending (s : State) : (s.driveAttn).bootPending = s.bootPending := rfl
@[simp] theorem State.driveAttn_powerOnFlag (s : State) : (s.driveAttn).powerOnFlag = s.powerOnFlag := rfl
@[simp] theorem State.driveAttn_session (s : State) : (s.driveAttn).session = s.session := rfl
@[simp] theorem State.driveAttn_taking (s : State) : (s.driveAttn).taking = s.taking := rfl
@[simp] theorem State.driveAttn_pendingClose (s : State) : (s.driveAttn).pendingClose = s.pendingClose := rfl
@[simp] theorem State.driveAttn_pendingRestart (s : State) : (s.driveAttn).pendingRestart = s.pendingRestart := rfl
@[simp] theorem State.driveAttn_pendingResets (s : State) : (s.driveAttn).pendingResets = s.pendingResets := rfl
@[simp] theorem State.driveAttn_intakeStopped (s : State) : (s.driveAttn).intakeStopped = s.intakeStopped := rfl
@[simp] theorem State.driveAttn_restartSent (s : State) : (s.driveAttn).restartSent = s.restartSent := rfl
@[simp] theorem State.driveAttn_cancelledJobs (s : State) : (s.driveAttn).cancelledJobs = s.cancelledJobs := rfl
@[simp] theorem State.driveAttn_discardedPosts (s : State) : (s.driveAttn).discardedPosts = s.discardedPosts := rfl
@[simp] theorem State.driveAttn_routes (s : State) : (s.driveAttn).routes = s.routes := rfl
@[simp] theorem State.driveAttn_branches (s : State) : (s.driveAttn).branches = s.branches := rfl
@[simp] theorem State.driveAttn_watches (s : State) : (s.driveAttn).watches = s.watches := rfl
@[simp] theorem State.driveAttn_notices (s : State) : (s.driveAttn).notices = s.notices := rfl
@[simp] theorem State.driveAttn_credits (s : State) : (s.driveAttn).credits = s.credits := rfl
@[simp] theorem State.driveAttn_nextSeq (s : State) : (s.driveAttn).nextSeq = s.nextSeq := rfl
@[simp] theorem State.driveAttn_dropped (s : State) : (s.driveAttn).dropped = s.dropped := rfl
@[simp] theorem State.driveAttn_pending (s : State) : (s.driveAttn).pending = s.pending := rfl
@[simp] theorem State.driveAttn_route (s : State) (r' : RouteId) : (s.driveAttn).route r' = s.route r' := rfl
@[simp] theorem State.driveAttn_branch (s : State) (b' : BranchId) : (s.driveAttn).branch b' = s.branch b' := rfl
@[simp] theorem State.driveAttn_watch (s : State) (w' : WatchId) : (s.driveAttn).watch w' = s.watch w' := rfl
@[simp] theorem State.driveAttn_pendingReset (s : State) (b' : BranchId) :
    (s.driveAttn).pendingReset b' = s.pendingReset b' := rfl

end Sys2Proof.Machine
end

