-- ==== Sys2Proof/Laws/Frames.lean ====
section
/-! SUPPORT. What the shared operations cannot touch: one lemma for each operation. `State.rest` is the part of the state
that no end of a job, no offer of a notice, no selection and no recovery changes. -/

namespace Sys2Proof.Machine

/-- The state with the fields blanked that job ends, offers, selections and recoveries may change: the replies, the
three tables, the BRANCH_RESET records, the close counts, and the notice queue with NEXT_SEQ, DROPPED and ATTN. -/
def State.rest (s : State) : State :=
  { s with
    replies := []
    pendingResets := State.reset.pendingResets
    cancelledJobs := 0
    discardedPosts := 0
    routes := State.reset.routes
    branches := State.reset.branches
    watches := State.reset.watches
    notices := []
    nextSeq := 1
    dropped := 0
    attnLow := false }

/-- Two states with the same rest agree on the time, the link, the session and its records, the intake, the credits and
the command queue. -/
theorem State.rest_fields {s t : State} (h : t.rest = s.rest) :
    t.now = s.now ∧ t.linkSpeed = s.linkSpeed ∧ t.receiver = s.receiver ∧ t.rxQueue = s.rxQueue ∧
      t.counters = s.counters ∧ t.transmitting = s.transmitting ∧ t.bootPending = s.bootPending ∧
      t.powerOnFlag = s.powerOnFlag ∧ t.session = s.session ∧ t.taking = s.taking ∧ t.pendingClose = s.pendingClose ∧
      t.pendingRestart = s.pendingRestart ∧ t.intakeStopped = s.intakeStopped ∧ t.restartSent = s.restartSent ∧
      t.credits = s.credits ∧ t.pending = s.pending := by
  have k : ∀ {β : Type} (p : State → β), p t.rest = p s.rest := fun p => congrArg p h
  exact ⟨k State.now, k State.linkSpeed, k State.receiver, k State.rxQueue, k State.counters, k State.transmitting,
    k State.bootPending, k State.powerOnFlag, k State.session, k State.taking, k State.pendingClose,
    k State.pendingRestart, k State.intakeStopped, k State.restartSent, k State.credits, k State.pending⟩

/-- A fold of an operation that keeps a projection of the state keeps it. -/
theorem State.foldl_keeps {α β : Type} (p : State → β) (f : State → α → State) (h : ∀ s a, p (f s a) = p s) :
    ∀ (l : List α) (s : State), p (l.foldl f s) = p s
  | [], _ => rfl
  | a :: l, s => (State.foldl_keeps p f h l (f s a)).trans (h s a)

/-! ### The rest under each operation -/

@[simp] theorem State.setRoute_rest (s : State) (r : RouteId) (v : Route) : (s.setRoute r v).rest = s.rest := rfl
@[simp] theorem State.setBranch_rest (s : State) (b : BranchId) (v : Branch) : (s.setBranch b v).rest = s.rest := rfl
@[simp] theorem State.setWatch_rest (s : State) (w : WatchId) (v : Watch) : (s.setWatch w v).rest = s.rest := rfl
@[simp] theorem State.setPendingReset_rest (s : State) (b : BranchId) (v : Option Byte) :
    (s.setPendingReset b v).rest = s.rest := rfl
@[simp] theorem State.setEngine_rest (s : State) (b : BranchId) (e : Engine) : (s.setEngine b e).rest = s.rest := rfl
@[simp] theorem State.pushReply_rest (s : State) (f : Frame) : (s.pushReply f).rest = s.rest := rfl
@[simp] theorem State.driveAttn_rest (s : State) : s.driveAttn.rest = s.rest := rfl
@[simp] theorem State.updateJob_rest (s : State) (j : Job) (f : Job → Job) : (s.updateJob j f).rest = s.rest := rfl
@[simp] theorem State.dropJob_rest (s : State) (j : Job) : (s.dropJob j).rest = s.rest := rfl
@[simp] theorem State.jobJoins_rest (s : State) (r : RouteId) : (s.jobJoins r).rest = s.rest := rfl
@[simp] theorem State.jobLeaves_rest (s : State) (r : RouteId) : (s.jobLeaves r).rest = s.rest := rfl
@[simp] theorem State.placeInQueue_rest (s : State) (j : Job) : (s.placeInQueue j).rest = s.rest := rfl
@[simp] theorem State.clearPollOut_rest (s : State) (w : WatchId) : (s.clearPollOut w).rest = s.rest := rfl
@[simp] theorem State.countDiscards_rest (s : State) (n : Nat) : (s.countDiscards n).rest = s.rest := rfl
@[simp] theorem State.countCancelled_rest (s : State) : s.countCancelled.rest = s.rest := rfl
@[simp] theorem State.enqueueNotice_rest (s : State) (x : NoticeBody) : (s.enqueueNotice x).rest = s.rest := rfl
@[simp] theorem State.dropNotice_rest (s : State) : s.dropNotice.rest = s.rest := rfl
@[simp] theorem State.clearMissed_rest (s : State) (w : WatchId) : (s.clearMissed w).rest = s.rest := rfl
@[simp] theorem State.sealChanges_rest (s : State) (p : WatchId → Bool) : (s.sealChanges p).rest = s.rest := rfl
@[simp] theorem State.countLoss_rest (s : State) (b : BranchId) : (s.countLoss b).rest = s.rest := rfl
@[simp] theorem State.enterWaitFree_rest (s : State) (b : BranchId) : (s.enterWaitFree b).rest = s.rest := rfl
@[simp] theorem State.makeEnding_rest (s : State) (j : Job) (c : EndCause) (atBoundary : Bool) :
    (s.makeEnding j c atBoundary).rest = s.rest := rfl

@[simp] theorem State.offer_rest (s : State) (x : NoticeBody) : (s.offer x).rest = s.rest := by
  unfold State.offer; split <;> [split; skip] <;> simp

@[simp] theorem State.offerChange_rest (s : State) (c : ChangeBody) : (s.offerChange c).rest = s.rest := by
  unfold State.offerChange
  repeat' split
  all_goals rfl

@[simp] theorem State.changePresence_rest (s : State) (r : RouteId) (c : Option Status) (p : Presence) :
    (s.changePresence r c p).rest = s.rest := by
  unfold State.changePresence; simp only; split <;> simp

@[simp] theorem State.presenceOutcome_rest (s : State) (r : RouteId) (st : Status) (acked : Bool) :
    (s.presenceOutcome r st acked).rest = s.rest := by
  unfold State.presenceOutcome
  simp only
  split
  · simp
  · rw [State.foldl_keeps State.rest _ fun s p => s.changePresence_rest r (some st) p, State.setRoute_rest]

@[simp] theorem State.removeJob_rest (s : State) (j : Job) : (s.removeJob j).rest = s.rest := by
  unfold State.removeJob; simp only; split <;> split <;> simp

@[simp] theorem State.deliver_rest (s : State) (j : Job) (st : Status) : (s.deliver j st).rest = s.rest := by
  unfold State.deliver
  simp only
  repeat' split
  all_goals simp

/-- The purge of one job keeps the rest. -/
@[simp] theorem purgeOne_rest (acc : State × Discards) (j : Job) : (purgeOne acc j).1.rest = acc.1.rest := by
  unfold purgeOne; split <;> simp

/-- A fold of `purgeOne` keeps what each purge of one job keeps. -/
theorem purge_keeps {β : Type} (p : State → β) (h : ∀ acc j, p (purgeOne acc j).1 = p acc.1) :
    ∀ (l : List Job) (acc : State × Discards), p (l.foldl purgeOne acc).1 = p acc.1
  | [], _ => rfl
  | j :: l, acc => (purge_keeps p h l (purgeOne acc j)).trans (h acc j)

@[simp] theorem State.purge_rest (s : State) (r : RouteId) (d : Discards) : (s.purge r d).1.rest = s.rest :=
  purge_keeps State.rest purgeOne_rest _ (s, d)

@[simp] theorem State.carryOut_rest (s : State) (r : RouteId) (f : FailedPost) (d : Discards) :
    (s.carryOut r f d).rest = s.rest := by
  simp [State.carryOut]

@[simp] theorem State.lateFailure_rest (s : State) (r : RouteId) (f : FailedPost) :
    (s.lateFailure r f).rest = s.rest := by
  unfold State.lateFailure; simp only; split <;> simp

@[simp] theorem State.settleWaiting_rest (s : State) (r : RouteId) : (s.settleWaiting r).rest = s.rest := by
  unfold State.settleWaiting
  repeat' split
  all_goals simp

@[simp] theorem State.settleRouteOf_rest (s : State) (j : Job) : (s.settleRouteOf j).rest = s.rest := by
  unfold State.settleRouteOf; split <;> simp

@[simp] theorem State.postedEnds_rest (s : State) (j : Job) (st : Status) : (s.postedEnds j st).rest = s.rest := by
  unfold State.postedEnds
  repeat' split
  all_goals simp

@[simp] theorem State.countCloseEnd_rest (s : State) (j : Job) (st : Status) : (s.countCloseEnd j st).rest = s.rest := by
  unfold State.countCloseEnd; split <;> simp

@[simp] theorem State.comparePoll_rest (s : State) (w : WatchId) (c : WatchConfig) (v : List Byte) :
    (s.comparePoll w c v).rest = s.rest := by
  unfold State.comparePoll
  simp only
  repeat' split
  all_goals simp

@[simp] theorem State.pollEnds_rest (s : State) (w : WatchId) (st : Status) (v : List Byte) :
    (s.pollEnds w st v).rest = s.rest := by
  unfold State.pollEnds
  simp only
  repeat' split
  all_goals simp

@[simp] theorem State.endDelivered_rest (s : State) (j : Job) (st : Status) : (s.endDelivered j st).rest = s.rest := by
  simp [State.endDelivered]

@[simp] theorem State.watchTakes_rest (s : State) (j : Job) (st : Status) : (s.watchTakes j st).rest = s.rest := by
  unfold State.watchTakes; split <;> simp

/-- The end of a job, whatever its status, touches nothing of the rest. -/
@[simp] theorem State.endJob_rest (s : State) (j : Job) (st : Status) : (s.endJob j st).rest = s.rest := by
  simp [State.endJob]

@[simp] theorem State.endOnWires_rest (s : State) (j : Job) (st : Status) : (s.endOnWires j st).rest = s.rest := by
  simp [State.endOnWires]

@[simp] theorem State.enterRecovery_rest (s : State) (b : BranchId) (c : RecoveryCause) :
    (s.enterRecovery b c).rest = s.rest := by
  unfold State.enterRecovery; simp only; split <;> simp

@[simp] theorem State.beginStart_rest (s : State) (b : BranchId) (n : SlotId) : (s.beginStart b n).rest = s.rest := by
  simp [State.beginStart]

@[simp] theorem State.startJob_rest (s : State) (b : BranchId) (j : Job) : (s.startJob b j).rest = s.rest := by
  unfold State.startJob
  simp only
  repeat' split
  all_goals simp

@[simp] theorem State.selectIfIdle_rest (s : State) (b : BranchId) : (s.selectIfIdle b).rest = s.rest := by
  unfold State.selectIfIdle
  repeat' split
  all_goals simp

@[simp] theorem State.becomeIdle_rest (s : State) (b : BranchId) : (s.becomeIdle b).rest = s.rest := by
  simp [State.becomeIdle]

@[simp] theorem State.acceptJob_rest (s : State) (j : Job) : (s.acceptJob j).rest = s.rest := by
  simp [State.acceptJob]

@[simp] theorem State.answerBranchReset_rest (s : State) (b : BranchId) (st : Status) :
    (s.answerBranchReset b st).rest = s.rest := by
  unfold State.answerBranchReset; split <;> simp

@[simp] theorem State.recoverySucceeds_rest (s : State) (b : BranchId) (c : RecoveryCause) :
    (s.recoverySucceeds b c).rest = s.rest := by
  unfold State.recoverySucceeds; simp only; split <;> simp

@[simp] theorem drainFirst_rest (s : State) (j : Job) : (drainFirst s j).rest = s.rest := by
  unfold drainFirst; split <;> simp

@[simp] theorem drainSecond_rest (b : BranchId) (s : State) (j : Job) : (drainSecond b s j).rest = s.rest := by
  unfold drainSecond; split <;> simp

@[simp] theorem State.drain_rest (s : State) (b : BranchId) : (s.drain b).rest = s.rest := by
  unfold State.drain
  simp only
  rw [State.foldl_keeps State.rest _ (drainSecond_rest b), State.foldl_keeps State.rest _ drainFirst_rest]

/-- The failure of a recovery, with its drain, touches nothing of the rest. -/
@[simp] theorem State.recoveryFails_rest (s : State) (b : BranchId) (c : RecoveryCause) :
    (s.recoveryFails b c).rest = s.rest := by
  simp [State.recoveryFails]

/-! ### Offers leave the tables and the replies alone -/

@[simp] theorem State.offer_branches (s : State) (x : NoticeBody) : (s.offer x).branches = s.branches := by
  unfold State.offer; split <;> [split; skip] <;> rfl
@[simp] theorem State.offer_routes (s : State) (x : NoticeBody) : (s.offer x).routes = s.routes := by
  unfold State.offer; split <;> [split; skip] <;> rfl
@[simp] theorem State.offer_watches (s : State) (x : NoticeBody) : (s.offer x).watches = s.watches := by
  unfold State.offer; split <;> [split; skip] <;> rfl
@[simp] theorem State.offer_replies (s : State) (x : NoticeBody) : (s.offer x).replies = s.replies := by
  unfold State.offer; split <;> [split; skip] <;> rfl
@[simp] theorem State.offer_pendingResets (s : State) (x : NoticeBody) :
    (s.offer x).pendingResets = s.pendingResets := by
  unfold State.offer; split <;> [split; skip] <;> rfl
@[simp] theorem State.offerChange_branches (s : State) (c : ChangeBody) : (s.offerChange c).branches = s.branches := by
  unfold State.offerChange; repeat' split
  all_goals rfl
@[simp] theorem State.offerChange_routes (s : State) (c : ChangeBody) : (s.offerChange c).routes = s.routes := by
  unfold State.offerChange; repeat' split
  all_goals rfl
@[simp] theorem State.offerChange_replies (s : State) (c : ChangeBody) : (s.offerChange c).replies = s.replies := by
  unfold State.offerChange; repeat' split
  all_goals rfl

/-! ### Presence leaves the branches, the watches and the replies alone -/

@[simp] theorem State.changePresence_branches (s : State) (r : RouteId) (c : Option Status) (p : Presence) :
    (s.changePresence r c p).branches = s.branches := by
  unfold State.changePresence; simp only; split <;> simp
@[simp] theorem State.changePresence_watches (s : State) (r : RouteId) (c : Option Status) (p : Presence) :
    (s.changePresence r c p).watches = s.watches := by
  unfold State.changePresence; simp only; split <;> simp
@[simp] theorem State.changePresence_replies (s : State) (r : RouteId) (c : Option Status) (p : Presence) :
    (s.changePresence r c p).replies = s.replies := by
  unfold State.changePresence; simp only; split <;> simp
@[simp] theorem State.presenceOutcome_branches (s : State) (r : RouteId) (st : Status) (acked : Bool) :
    (s.presenceOutcome r st acked).branches = s.branches := by
  unfold State.presenceOutcome
  simp only
  split
  · simp
  · rw [State.foldl_keeps State.branches _ fun s p => s.changePresence_branches r (some st) p, State.setRoute_branches]
@[simp] theorem State.presenceOutcome_watches (s : State) (r : RouteId) (st : Status) (acked : Bool) :
    (s.presenceOutcome r st acked).watches = s.watches := by
  unfold State.presenceOutcome
  simp only
  split
  · simp
  · rw [State.foldl_keeps State.watches _ fun s p => s.changePresence_watches r (some st) p, State.setRoute_watches]
@[simp] theorem State.presenceOutcome_replies (s : State) (r : RouteId) (st : Status) (acked : Bool) :
    (s.presenceOutcome r st acked).replies = s.replies := by
  unfold State.presenceOutcome
  simp only
  split
  · simp
  · rw [State.foldl_keeps State.replies _ fun s p => s.changePresence_replies r (some st) p, State.setRoute_replies]

/-! ### Selection and the entry of a recovery change their own branch alone -/

theorem State.enterRecovery_only (s : State) (b : BranchId) (c : RecoveryCause) :
    ∃ v : Branch, s.enterRecovery b c = s.setBranch b v ∧ v.queue = (s.branch b).queue ∧
      ∃ x, v.engine = .recovering x ∧ x.cause = c ∧ x.pulses = 0 := by
  unfold State.enterRecovery
  simp only
  split
  · exact ⟨_, rfl, rfl, _, rfl, rfl, rfl⟩
  · exact ⟨_, rfl, rfl, _, rfl, rfl, rfl⟩

theorem State.selectIfIdle_only (s : State) (b : BranchId)
    (placed : ∀ j ∈ (s.branch b).queue, j.branch = b) :
    s.selectIfIdle b = s ∨ ∃ v : Branch, s.selectIfIdle b = s.setBranch b v := by
  have member : ∀ (q : List Job) (ahead : List (Option RouteId)) (j : Job), firstEligible ahead q = some j → j ∈ q := by
    intro q
    induction q with
    | nil => intro ahead j h; simp [firstEligible] at h
    | cons i q ih =>
      intro ahead j h
      unfold firstEligible at h
      split at h
      · simp at h; simp [h]
      · exact List.mem_cons_of_mem _ (ih _ _ h)
  unfold State.selectIfIdle
  split
  · split
    · exact .inl rfl
    · rename_i j h
      right
      have hb := placed j (member _ _ _ h)
      unfold State.startJob
      simp only
      split
      · refine ⟨{ (s.branch b).pullsData with
          engine := .active ⟨j.slot, .start, none⟩
          queue := (s.branch b).queue.map fun i => if i.slot = j.slot then { i with state := .active } else i }, ?_⟩
        simp [State.updateJob, State.beginStart, hb, State.setBranch, State.branch, Branch.pullsData]
      · split
        · obtain ⟨v, hv, -⟩ := s.enterRecovery_only b .busFault
          exact ⟨v, hv⟩
        · exact ⟨_, rfl⟩
  all_goals exact .inl rfl

end Sys2Proof.Machine
end

