-- ==== Sys2Proof/Laws/Jobs.lean ====
section
/-! SUPPORT. The job pool: its members, the lookup of a job by its slot, and the job an engine conducts. -/

namespace Sys2Proof.Machine

/-- A job is in the pool exactly if it stands in one of the four queues. -/
theorem State.mem_jobs {s : State} {j : Job} : j ∈ s.jobs ↔ ∃ b : BranchId, j ∈ (s.branch b).queue := by
  unfold State.jobs
  rw [List.mem_flatMap]
  constructor
  · rintro ⟨br, hbr, hj⟩
    obtain ⟨i, hi, rfl⟩ := List.mem_iff_getElem.1 hbr
    have hi4 : i < 4 := by simpa using hi
    exact ⟨⟨i, hi4⟩, by simpa [State.branch] using hj⟩
  · rintro ⟨b, hj⟩
    exact ⟨s.branch b, by simp [State.branch], hj⟩

/-- With one job to a slot, jobs in one slot are one job. -/
theorem slots_inj {l : List Job} (h : (l.map (·.slot)).Nodup) {i j : Job} (hi : i ∈ l) (hj : j ∈ l)
    (e : i.slot = j.slot) : i = j :=
  List.inj_on_of_nodup_map h hi hj e

/-- With one job to a slot, a search by slot finds the job of the slot. -/
theorem find_slot {l : List Job} (h : (l.map (·.slot)).Nodup) {j : Job} (hj : j ∈ l) :
    (l.find? fun i => i.slot == j.slot) = some j := by
  cases hf : l.find? fun i => i.slot == j.slot with
  | none => simpa using List.find?_eq_none.1 hf j hj
  | some i =>
    have hi : i.slot = j.slot := by simpa using List.find?_some hf
    rw [slots_inj h (List.mem_of_find?_eq_some hf) hj hi]

/-- The pool finds each of its jobs by its slot. -/
theorem PoolLaw.findJob {s : State} (h : PoolLaw s) {j : Job} (hj : j ∈ s.jobs) : s.findJob j.slot = some j :=
  find_slot h.slots hj

/-- The pool finds nothing in a slot that no job of it has. -/
theorem State.findJob_none {s : State} {n : SlotId} (h : ∀ j ∈ s.jobs, j.slot ≠ n) : s.findJob n = none :=
  List.find?_eq_none.2 fun j hj => by simpa using h j hj

/-- A job of the pool stands in the queue of its BRANCH. -/
theorem PoolLaw.mem_queue {s : State} (h : PoolLaw s) {j : Job} (hj : j ∈ s.jobs) : j ∈ (s.branch j.branch).queue := by
  obtain ⟨b, hb⟩ := State.mem_jobs.1 hj
  rw [h.placed b j hb]
  exact hb

/-- The slots of one queue are all different. -/
theorem PoolLaw.queue_slots {s : State} (h : PoolLaw s) (b : BranchId) :
    ((s.branch b).queue.map (·.slot)).Nodup := by
  have hs := h.slots
  unfold State.jobs at hs
  rw [List.map_flatMap] at hs
  exact (List.nodup_flatMap.1 hs).1 (s.branch b) (by simp [State.branch])

/-- The job an engine conducts is found. -/
theorem Conducts.conducting {s : State} {b : BranchId} {c : Conduct} {j : Job} (h : Conducts s b c j) :
    s.conducting b = some (c, j) := by
  have hf : ((s.branch b).queue.find? fun i => i.slot == c.slot) = some j := by
    rw [← h.slot]
    exact find_slot (h.pool.queue_slots b) h.member
  unfold State.conducting
  rw [h.engine]
  simp only [hf]

/-- The job an engine conducts is of its branch. -/
theorem Conducts.branch {s : State} {b : BranchId} {c : Conduct} {j : Job} (h : Conducts s b c j) : j.branch = b :=
  h.pool.placed b j h.member

/-- An engine that is not ACTIVE conducts nothing. -/
theorem State.conducting_none {s : State} {b : BranchId} (h : ∀ c, (s.branch b).engine ≠ .active c) :
    s.conducting b = none := by
  unfold State.conducting
  split
  · rename_i c hc
    exact absurd hc (h c)
  all_goals rfl

/-- A job's record changed in its place, read branch by branch. -/
theorem State.branch_updateJob (s : State) (j : Job) (f : Job → Job) (k : BranchId) :
    (s.updateJob j f).branch k =
      if j.branch = k then
        { s.branch k with queue := (s.branch k).queue.map fun i => if i.slot = j.slot then f i else i }
      else s.branch k := by
  unfold State.updateJob
  rw [State.branch_setBranch]
  split
  · rename_i h; rw [h]
  · rfl

/-- A job dropped from its queue, read branch by branch. -/
theorem State.branch_dropJob (s : State) (j : Job) (k : BranchId) :
    (s.dropJob j).branch k =
      if j.branch = k then { s.branch k with queue := (s.branch k).queue.filter fun i => i.slot ≠ j.slot }
      else s.branch k := by
  unfold State.dropJob
  rw [State.branch_setBranch]
  split
  · rename_i h; rw [h]
  · rfl

/-- The end of a job changes no branch but its own, and there only the queue, which loses the job; unless it is a posted
job that holds its route. -/
theorem State.branch_deliver (s : State) (j : Job) (st : Status) (k : BranchId) :
    (s.deliver j st).branch k =
      if j.branch = k then { s.branch k with queue := (s.branch k).queue.filter fun i => i.slot ≠ j.slot }
      else s.branch k := by
  rw [← State.branch_dropJob]
  unfold State.deliver
  simp only [State.branch]
  repeat' split
  all_goals simp [State.jobLeaves]

/-- A job removed without an end record leaves its queue, and no branch changes otherwise. -/
theorem State.branch_removeJob (s : State) (j : Job) (k : BranchId) :
    (s.removeJob j).branch k =
      if j.branch = k then { s.branch k with queue := (s.branch k).queue.filter fun i => i.slot ≠ j.slot }
      else s.branch k := by
  rw [← State.branch_dropJob]
  unfold State.removeJob
  simp only [State.branch]
  repeat' split
  all_goals simp [State.jobLeaves, State.clearPollOut]

/-- A job placed keeps the others in their order, and is the only new member. -/
theorem mem_placeJob {i j : Job} {q : List Job} : i ∈ placeJob j q ↔ i = j ∨ i ∈ q := by
  have insert : ∀ (p : Job → Bool) (q : List Job), i ∈ insertAfterLast p j q ↔ i = j ∨ i ∈ q := by
    intro p q
    induction q with
    | nil => simp [insertAfterLast]
    | cons a q ih =>
      unfold insertAfterLast
      split
      · simp only [List.mem_cons, ih]
        tauto
      · simp
  unfold placeJob
  split
  · exact insert _ q
  · simp [or_comm]

/-- A job selected is QUEUED and stands in the queue. -/
theorem firstEligible_some {ahead : List (Option RouteId)} {q : List Job} {j : Job}
    (h : firstEligible ahead q = some j) : j ∈ q ∧ j.state = .queued ∧ j.route ∉ ahead := by
  induction q generalizing ahead with
  | nil => simp [firstEligible] at h
  | cons i q ih =>
    unfold firstEligible at h
    split at h
    · rename_i hi
      cases h
      exact ⟨List.mem_cons_self, hi⟩
    · obtain ⟨hm, hq, hr⟩ := ih h
      exact ⟨List.mem_cons_of_mem _ hm, hq, fun hx => hr (List.mem_cons_of_mem _ hx)⟩

/-- A free slot is no job's slot. -/
theorem State.freeSlot_some {s : State} {n : SlotId} (h : s.freeSlot = some n) : ∀ j ∈ s.jobs, j.slot ≠ n := by
  have hn := List.find?_some h
  simpa using hn

/-- A slot is free while the pool holds fewer than 24 jobs. -/
theorem State.freeSlot_of_room {s : State} (h : s.jobs.length < 24) : ∃ n, s.freeSlot = some n := by
  cases hf : s.freeSlot with
  | some n => exact ⟨n, rfl⟩
  | none =>
    exfalso
    have hall : ∀ n : Fin 24, ∃ j ∈ s.jobs, j.slot = n := by
      intro n
      have := List.find?_eq_none.1 hf n (List.mem_finRange n)
      simpa using this
    have hsub : (List.finRange 24) ⊆ s.jobs.map (·.slot) := by
      intro n _
      obtain ⟨j, hj, rfl⟩ := hall n
      exact List.mem_map_of_mem hj
    have hle := (List.nodup_finRange 24).subperm hsub |>.length_le
    simp at hle
    omega

end Sys2Proof.Machine
end

