-- ==== Sys2Proof/Laws/Ends.lean ====
section
/-! SUPPORT. What the end of a job can do: offers, presence outcomes, deliveries, the change to ENDING; and what the
receiver makes of a byte. -/

namespace Sys2Proof.Machine

/-! ### Offers -/

/-- An offer that takes no merge does one of three things: nothing outside OPEN, a drop with 16 notices waiting, and an
addition to the tail otherwise. -/
theorem State.offer_cases (s : State) (x : NoticeBody) :
    (s.session ≠ .opened ∧ s.offer x = s) ∨
      (s.session = .opened ∧ 16 ≤ s.notices.length ∧ s.offer x = { s with dropped := min (s.dropped + 1) 255 }) ∨
      (s.session = .opened ∧ s.notices.length < 16 ∧ s.offer x = { s with
        notices := s.notices ++ [⟨s.nextSeq, s.dropped, false, x⟩]
        nextSeq := if s.nextSeq < 65535 then s.nextSeq + 1 else 1
        dropped := 0
        attnLow := s.credits == 0 }) := by
  by_cases ho : s.session = .opened
  · by_cases hl : 16 ≤ s.notices.length
    · exact .inr (.inl ⟨ho, hl, by simp [State.offer, ho, hl, Config.noticeQueueMax, State.dropNotice, bump,
        Config.countMax]⟩)
    · refine .inr (.inr ⟨ho, by omega, ?_⟩)
      simp [State.offer, ho, hl, Config.noticeQueueMax, State.enqueueNotice, State.driveAttn, nextNumber,
        Config.counterMax]
      rfl
  · exact .inl ⟨ho, by simp [State.offer, ho]⟩

/-- The notices after an offer. -/
theorem State.offer_notices (s : State) (x : NoticeBody) : (s.offer x).notices = noticesAfterOffer s x := by
  unfold noticesAfterOffer
  rcases s.offer_cases x with ⟨ho, he⟩ | ⟨ho, hl, he⟩ | ⟨ho, hl, he⟩ <;> rw [he]
  · simp [ho]
  · simp [Nat.not_lt.2 hl]
  · simp [ho, hl]

/-! ### Presence -/

/-- One change of PRESENCE sets that field of the route, and no other field of any route. -/
theorem State.route_changePresence (s : State) (r q : RouteId) (c : Option Status) (p : Presence) :
    (s.changePresence r c p).route q = if r = q then { s.route r with presence := p } else s.route q := by
  rw [← State.route_setRoute]
  unfold State.changePresence State.route
  simp only
  split <;> simp

/-- A chain of changes of PRESENCE leaves every other field of every route as it is. -/
theorem State.route_changes (r q : RouteId) (c : Option Status) :
    ∀ (l : List Presence) (s : State), ∃ p : Presence,
      (l.foldl (fun s x => s.changePresence r c x) s).route q =
        if r = q then { s.route r with presence := p } else s.route q
  | [], s => ⟨(s.route r).presence, by split <;> simp_all⟩
  | x :: l, s => by
    obtain ⟨p, hp⟩ := State.route_changes r q c l (s.changePresence r c x)
    refine ⟨p, ?_⟩
    rw [List.foldl_cons, hp]
    simp only [State.route_changePresence]
    split <;> simp_all

/-- An outcome moves the judgement of its own route alone: PRESENCE and the two streaks. -/
theorem State.route_presenceOutcome (s : State) (r q : RouteId) (st : Status) (acked : Bool) :
    ∃ (p : Presence) (good bad : Nat), (s.presenceOutcome r st acked).route q =
      if r = q then { s.route r with presence := p, goodStreak := good, badStreak := bad } else s.route q := by
  have streaks : ∃ good bad, (s.route r).moveStreaks (classify st acked) =
      { s.route r with goodStreak := good, badStreak := bad } := by
    unfold Route.moveStreaks
    split
    · exact ⟨_, _, rfl⟩
    · exact ⟨_, _, rfl⟩
    · exact ⟨(s.route r).goodStreak, (s.route r).badStreak, rfl⟩
  obtain ⟨good, bad, hs⟩ := streaks
  unfold State.presenceOutcome
  simp only [hs]
  split
  · refine ⟨(s.route r).presence, good, bad, ?_⟩
    rw [State.route_setRoute]
  · rename_i c hc
    obtain ⟨p, hp⟩ := State.route_changes r q (some st)
      (presenceChanges c good bad (s.route r).presence (classify st acked))
      (s.setRoute r { s.route r with goodStreak := good, badStreak := bad })
    refine ⟨p, good, bad, hp.trans ?_⟩
    rw [State.route_setRoute_self, State.route_setRoute]
    by_cases h : r = q <;> simp only [h, if_true, if_false]

/-- A neutral outcome moves nothing. -/
theorem State.presenceOutcome_neutral {s : State} {r : RouteId} {st : Status} {acked : Bool}
    (h : classify st acked = .neutral) : s.presenceOutcome r st acked = s := by
  have hr : s.setRoute r (s.route r) = s := by
    simp [State.setRoute, State.route]
  unfold State.presenceOutcome
  simp only [h, Route.moveStreaks, hr]
  split
  · rfl
  · cases hp : (s.route r).presence <;> simp [presenceChanges, nextPresence]

/-! ### Deliveries -/

/-- The replies a job's end delivers: its own if one is owed, and then the deferred CANCEL reply if there is one. -/
theorem State.deliver_replies (s : State) (j : Job) (st : Status) :
    (s.deliver j st).replies = s.replies ++
      (match j.owedTag with
        | none => []
        | some tag => [j.endReply tag st]) ++
      (match j.cancelTag, j.origin with
        | some tag, .host target => [cancelReply tag target st]
        | _, _ => []) := by
  unfold State.deliver
  simp only
  cases j.owedTag <;> cases j.cancelTag <;> cases j.origin <;> cases j.route <;>
    simp [State.dropJob, State.jobLeaves, State.pushReply]

/-- A delivery touches no watch. -/
@[simp] theorem State.deliver_watches (s : State) (j : Job) (st : Status) : (s.deliver j st).watches = s.watches := by
  unfold State.deliver
  simp only
  repeat' split
  all_goals simp [State.dropJob, State.jobLeaves]

/-- The end of an owed job is its delivery, with CANCELLED_JOBS counted where R31 has it. -/
theorem State.endJob_owed {s : State} {j : Job} {tag : Byte} {st : Status} (h : j.owedTag = some tag) :
    s.endJob j st = (s.countCloseEnd j st).deliver j st := by
  unfold Job.owedTag at h
  unfold State.endJob State.endDelivered State.postedEnds State.watchTakes
  cases ho : j.origin <;> cases hp : j.post <;> simp_all

/-- Outside CLOSING nothing is counted for the close procedure. -/
theorem State.countCloseEnd_not_closing {s : State} (h : s.session ≠ .closing) (j : Job) (st : Status) :
    s.countCloseEnd j st = s := by
  simp [State.countCloseEnd, h]

/-- A late failure changes no route but its own. -/
theorem State.settleWaiting_none {s : State} {r : RouteId} (h : (s.route r).waiting = none) : s.settleWaiting r = s := by
  simp [State.settleWaiting, h]

/-! ### Becoming ENDING -/

/-- A job that becomes ENDING changes its own record and its engine's phase, and nothing else. -/
theorem State.makeEnding_eq (s : State) (j : Job) (cause : EndCause) (atBoundary : Bool) :
    s.makeEnding j cause atBoundary = s.setBranch j.branch
      { s.branch j.branch with
        engine := (s.branch j.branch).engine.onEnding j.slot cause atBoundary
        queue := (s.branch j.branch).queue.map fun i =>
          if i.slot = j.slot then { i with state := .ending cause } else i } := by
  simp [State.makeEnding, State.updateJob, State.setEngine, State.setBranch, State.branch]

/-! ### The receiver -/

/-- Bytes without a start byte are passed over. -/
theorem State.examine_passes (s : State) : ∀ bs : List Byte, Config.startByte ∉ bs → s.examine 0 bs = s.hunt
  | [], _ => rfl
  | b :: bs, h => by
    have hb : b ≠ Config.startByte := fun e => h (by simp [e])
    have ht : Config.startByte ∉ bs := fun e => h (List.mem_cons_of_mem _ e)
    rw [State.examine, if_neg hb]
    exact State.examine_passes s bs ht

/-- While no more than 6 ms have passed since the last byte, the byte that arrives is taken (R7). -/
theorem State.receive_in_time {s : State} (h : s.receiver.overdue s.now = false) (b : Byte) :
    s.receive b = s.takeByte b := by
  simp [State.receive, h]

/-- After more than 6 ms the frame in progress is abandoned, and the byte is examined in HUNT (R7). -/
theorem State.receive_overdue {s : State} (h : s.receiver.overdue s.now = true) (b : Byte) :
    s.receive b = s.abandonFrame.takeByte b := by
  simp [State.receive, h]

/-- A receiver in HUNT takes a start byte and passes over any other. -/
theorem State.receive_hunting {s : State} (h : s.receiver = Receiver.hunting) (b : Byte) :
    s.receive b = if b = Config.startByte then s.holdFrame .length [] else s := by
  simp [State.receive, State.takeByte, h, Receiver.hunting, Receiver.overdue]

/-- A receiver partway through a frame holds the byte, and then does what the held bytes amount to. -/
theorem State.takeByte_held {s : State} (h : s.receiver.assembly ≠ .hunt) (b : Byte) :
    s.takeByte b = match assemble (s.receiver.held ++ [b]) with
      | .badLength => s.hunt
      | .unfinished state => s.holdFrame state (s.receiver.held ++ [b])
      | .mismatch => s.countCrcError.examine 0 (s.receiver.held ++ [b])
      | .good f _ => (s.disposeFrame f).hunt := by
  unfold State.takeByte
  cases ha : s.receiver.assembly
  · exact absurd ha h
  all_goals rfl

end Sys2Proof.Machine
end

