-- ==== Sys2Proof/Laws/Requests.lean ====
section
/-! SUPPORT. Taking a request: what the dispatcher does once the frame at the head may be taken, and what the payload
readers make of a payload spelled from its fields. -/

namespace Sys2Proof.Machine

/-! ### The dispatcher -/

/-- The frame at the head, taken. -/
def State.taken (s : State) (f : Frame) (rest : List Frame) : State := { s with rxQueue := rest, taking := some f }

/-- A frame that may be taken, of a KIND asked for, is taken. -/
theorem ReadyToTake.take {s : State} {f : Frame} {rest : List Frame} (h : ReadyToTake s f rest) {wanted : Byte → Bool}
    (hw : wanted f.kind = true) : s.take wanted = some (f, s.taken f rest) := by
  have ho : s.intakeOpen = true := by
    unfold State.intakeOpen
    rw [h.free, h.intake]
    have hc := h.notClosing
    have hr := h.room
    cases hs : s.session <;> simp_all [Config.intakeLimit]
  unfold State.take
  rw [h.head]
  simp [ho, hw, State.taken]

/-- With a closed intake, or an empty receive queue, nothing is taken. -/
theorem State.take_none {s : State} (h : s.rxQueue = [] ∨ s.intakeOpen = false) (wanted : Byte → Bool) :
    s.take wanted = none := by
  unfold State.take
  rcases h with h | h
  · rw [h]
  · cases s.rxQueue <;> simp [h]

/-- Nothing is taken where the frame at the head is of another KIND. -/
theorem State.take_other {s : State} {f : Frame} {rest : List Frame} (h : s.rxQueue = f :: rest)
    {wanted : Byte → Bool} (hw : wanted f.kind = false) : s.take wanted = none := by
  simp [State.take, h, hw]

/-- A request that fails a general check is answered with the status of the check alone. -/
theorem ReadyToTake.refused {α : Type} {s : State} {f : Frame} {rest : List Frame} (h : ReadyToTake s f rest) {k : Kind}
    (hk : f.kind = k.code) (form : List Byte → Option α) (act : State → Frame → α → State) {st : Status}
    (hc : (s.taken f rest).check k form f = .error st) :
    s.request k form act = s.afterReply rest ⟨f.kind + 0x80, f.tag, [st.code]⟩ := by
  unfold State.request
  rw [h.take (by simp [hk])]
  simp only [hc]
  simp [State.refuse, State.answer, State.endTake, State.taken, State.afterReply, State.pushReply, Frame.replyWith,
    h.free]

/-- A request that passes the general checks has its own action, and then no request is being taken. -/
theorem ReadyToTake.accepted {α : Type} {s : State} {f : Frame} {rest : List Frame} (h : ReadyToTake s f rest) {k : Kind}
    (hk : f.kind = k.code) (form : List Byte → Option α) (act : State → Frame → α → State) {a : α}
    (hc : (s.taken f rest).check k form f = .ok a) :
    s.request k form act = (act (s.taken f rest) f a).endTake := by
  unfold State.request
  rw [h.take (by simp [hk])]
  simp only [hc]

/-- The general checks pass for a request that comes in a session its kind is allowed in, with its form, and with a TAG
that no owed reply carries. -/
theorem check_ok {α : Type} {s : State} {k : Kind} {form : List Byte → Option α} {f : Frame} {a : α} (tag : f.tag ≠ 0)
    (session : sessionRefusal k s.session = none) (formed : form f.payload = some a)
    (fresh : k.deferrable = false ∨ f.tag ∉ s.owedTags) : s.check k form f = .ok a := by
  unfold State.check
  simp only [tag, if_false, session, formed]
  rcases fresh with h | h <;> simp [h]

/-- A request of a kind that is answered at once, taken in OPEN. -/
theorem Asks.act_open {α : Type} {s : State} {f : Frame} {rest : List Frame} {k : Kind} (h : Asks s f rest k)
    (opened : s.session = .opened) (hk : k ≠ .openSession) (hd : k.deferrable = false) (form : List Byte → Option α)
    (act : State → Frame → α → State) {a : α} (formed : form f.payload = some a) :
    s.request k form act = (act (s.taken f rest) f a).endTake :=
  h.ready.accepted h.kind form act
    (check_ok h.tag (by cases k <;> simp_all [sessionRefusal, State.taken]) formed (.inl hd))

/-- A request whose reply may be owed, taken in OPEN with a fresh TAG. -/
theorem AsksOpen.act {α : Type} {s : State} {f : Frame} {rest : List Frame} {k : Kind} (h : AsksOpen s f rest k)
    (hk : k ≠ .openSession) (form : List Byte → Option α) (act : State → Frame → α → State) {a : α}
    (formed : form f.payload = some a) : s.request k form act = (act (s.taken f rest) f a).endTake :=
  h.asks.ready.accepted h.asks.kind form act
    (check_ok h.asks.tag (by have := h.opened; cases k <;> simp_all [sessionRefusal, State.taken]) formed
      (.inr h.fresh))

/-! ### The readers -/

theorem byte_toNat {n : Nat} (h : n < 256) : (byte n).toNat = n := by
  simp [byte, Nat.mod_eq_of_lt h]

theorem readFlag_flagByte (b : Bool) : readFlag (flagByte b) = some b := by cases b <;> decide

theorem readNumber_byte {lo hi n : Nat} (h : lo ≤ n ∧ n ≤ hi) (h8 : n < 256) : readNumber lo hi (byte n) = some n := by
  simp [readNumber, byte_toNat h8, h]

theorem readIndex_byte {n : Nat} (hn : n ≤ 256) (i : Fin n) : readIndex n (byte i.val) = some i := by
  have h : (byte i.val).toNat = i.val := byte_toNat (by omega)
  simp [readIndex, h, i.isLt]

/-- A list field is read back, with what follows it. -/
theorem readList_listField {lo hi : Nat} {bs rest : List Byte} (h : lo ≤ bs.length ∧ bs.length ≤ hi) (h8 : hi < 256) :
    readList lo hi (listField bs ++ rest) = some (bs, rest) := by
  have hb : (byte bs.length).toNat = bs.length := byte_toNat (by omega)
  simp [listField, readList, hb, h]

/-- A two-byte number is read back. -/
theorem number16_bytes16 {n : Nat} (h : n < 65536) :
    number16 (BitVec.ofNat 8 (n / 256)) (BitVec.ofNat 8 n) = n := by
  simp [number16]
  omega

/-- A payload of a configuration in its ranges is read as that configuration. -/
theorem readRouteSet_bytes {r : RouteId} {c : RouteConfig} (h : c.InRange) :
    readRouteSet (byte r.val :: c.bytes) = some (r, c) := by
  obtain ⟨ha, hr, hd, hl, hq, hp⟩ := h
  have haddr : readNumber 0x08 0x77 (c.address.setWidth 8) = some c.address.toNat := by
    have : (c.address.setWidth 8).toNat = c.address.toNat := by
      have := c.address.isLt
      simp [BitVec.toNat_setWidth]
      omega
    simp [readNumber, this, ha]
  simp only [RouteConfig.bytes, bytes16, List.cons_append, List.nil_append, readRouteSet,
    readIndex_byte (by decide : (32 : Nat) ≤ 256), readIndex_byte (by decide : (4 : Nat) ≤ 256), haddr,
    readNumber_byte (lo := 0) ⟨Nat.zero_le _, hr⟩ (by omega), readNumber_byte hd (by omega),
    readNumber_byte hq (by omega), readNumber_byte hp (by omega), readFlag_flagByte,
    number16_bytes16 (by omega : c.deadline < 65536), Option.bind_eq_bind, Option.bind_some, hl, and_self, if_true]
  simp

/-- The check of the fields of an XFER is that of R59's table. -/
theorem XferForm.legal_iff (x : XferForm) : x.legal = true ↔ x.IsLegal := by
  have hlen : 1 ≤ x.writeData.length ↔ x.writeData ≠ [] := by cases x.writeData <;> simp
  cases hx : x.op <;> cases hp : x.posted <;> simp [XferForm.legal, XferForm.IsLegal, hx, hp, hlen]

/-- A payload of an XFER in its ranges is read as its fields. -/
theorem readXfer_bytes {x : XferForm} (h : x.InRange) : readXfer x.bytes = some x := by
  obtain ⟨hw, hc, legal⟩ := h
  have hl := x.legal_iff.2 legal
  have hop : readOp x.op.code = some x.op := by
    cases hx : x.op <;> first | rfl | simp [XferForm.legal, hx] at hl
  simp only [XferForm.bytes, List.cons_append, List.nil_append, readXfer,
    readIndex_byte (by decide : (32 : Nat) ≤ 256), hop, readFlag_flagByte, Option.bind_eq_bind, Option.bind_some,
    readList_listField (lo := 0) (hi := Config.maxData) ⟨Nat.zero_le _, hw⟩ (by decide),
    readNumber_byte (lo := 0) (hi := Config.maxData) ⟨Nat.zero_le _, hc⟩ (by omega), hl, if_true]

/-- A payload of a BROADCAST in its range is read as its fields. -/
theorem readBroadcast_bytes {x : BroadcastForm} (h : 1 ≤ x.writeData.length ∧ x.writeData.length ≤ 32) :
    readBroadcast x.bytes = some x := by
  have hl : readList 1 Config.maxData (listField x.writeData) = some (x.writeData, []) := by
    simpa using readList_listField (lo := 1) (hi := Config.maxData) (rest := []) h (by decide)
  simp only [BroadcastForm.bytes, List.cons_append, List.nil_append, readBroadcast,
    readIndex_byte (by decide : (4 : Nat) ≤ 256), readFlag_flagByte, Option.bind_eq_bind, Option.bind_some, hl]

/-- A payload of a branch configuration is read as that configuration. -/
theorem readBranchSet_bytes {b : BranchId} {c : BranchConfig} (h : 1 ≤ c.stretchLimit ∧ c.stretchLimit ≤ 255) :
    readBranchSet (branchSetBytes b c) = some (b, c) := by
  have hs : readBranchSpeed c.speed.code = some c.speed := by cases c.speed <;> rfl
  simp only [branchSetBytes, readBranchSet, readIndex_byte (by decide : (4 : Nat) ≤ 256), readFlag_flagByte, hs,
    readNumber_byte h (by omega), Option.bind_eq_bind, Option.bind_some]

/-- A payload of a watch configuration in its ranges is read as that configuration. -/
theorem readWatchSet_bytes {w : WatchId} {c : WatchConfig} (h : c.InRange) :
    readWatchSet (byte w.val :: c.bytes) = some (w, c) := by
  obtain ⟨hp, hl, ht, hr, hf⟩ := h
  have hlist (bs rest : List Byte) (hb : bs.length = c.length) :
      readList c.length c.length (byte bs.length :: (bs ++ rest)) = some (bs, rest) := by
    have := readList_listField (lo := c.length) (hi := c.length) (rest := rest) (bs := bs) (by omega) (by omega)
    simpa [listField] using this
  have hlead (rest : List Byte) : readList 0 2 (byte c.lead.length :: (c.lead ++ rest)) = some (c.lead, rest) := by
    have := readList_listField (lo := 0) (hi := 2) (rest := rest) (bs := c.lead) (by omega) (by omega)
    simpa [listField] using this
  simp only [WatchConfig.bytes, listField, bytes16, List.cons_append, List.nil_append, List.append_assoc, readWatchSet,
    readIndex_byte (by decide : (16 : Nat) ≤ 256), readIndex_byte (by decide : (32 : Nat) ≤ 256), readFlag_flagByte,
    Option.bind_eq_bind, Option.bind_some, hlead, readNumber_byte hl (by omega), hlist _ _ hr, hlist _ _ hf,
    number16_bytes16 (by omega : c.period < 65536), ht, and_self, if_true]

end Sys2Proof.Machine
end

