-- ==== Sys2Proof/Laws/Forms.lean ====
section
/-! SUPPORT. The payload readers accept just the payloads that have the form of their kind (R23, R173): `Kind.formed_iff`. -/

namespace Sys2Proof.Machine

/-! ### Fields -/

theorem readFlag_isSome {b : Byte} : (∃ x, readFlag b = some x) ↔ b = 0 ∨ b = 1 := by
  unfold readFlag
  split <;> [simp_all; split] <;> simp_all

theorem readBranchSpeed_isSome {b : Byte} : (∃ x, readBranchSpeed b = some x) ↔ b = 0 ∨ b = 1 := by
  unfold readBranchSpeed
  split <;> [simp_all; split] <;> simp_all

theorem readNumber_eq {lo hi : Nat} {b : Byte} {n : Nat} :
    readNumber lo hi b = some n ↔ (lo ≤ b.toNat ∧ b.toNat ≤ hi) ∧ n = b.toNat := by
  unfold readNumber
  split <;> simp_all [eq_comm]

theorem readIndex_isSome {n : Nat} {b : Byte} : (∃ i, readIndex n b = some i) ↔ b.toNat < n := by
  unfold readIndex
  split <;> simp_all

/-- A list field is read exactly where its count has its range and that many bytes follow. -/
theorem readList_eq {lo hi : Nat} {p items rest : List Byte} : readList lo hi p = some (items, rest) ↔
    ∃ count : Byte, p = count :: (items ++ rest) ∧ count.toNat = items.length ∧ lo ≤ items.length ∧
      items.length ≤ hi := by
  cases p with
  | nil => simp [readList]
  | cons n bs =>
    simp only [readList, List.cons.injEq]
    constructor
    · intro h
      split at h
      · rename_i hn
        simp only [Option.some.injEq, Prod.mk.injEq] at h
        obtain ⟨rfl, rfl⟩ := h
        refine ⟨n, ⟨rfl, (List.take_append_drop _ _).symm⟩, ?_⟩
        simp [hn]
      · cases h
    · rintro ⟨c, ⟨rfl, rfl⟩, hc, hl, hh⟩
      simp [hc, hl, hh]

/-- A field that is read, and then the rest. -/
theorem bind_isSome {α β : Type} {x : Option α} {f : α → Option β} :
    (x.bind f).isSome = true ↔ ∃ a, x = some a ∧ (f a).isSome = true := by
  cases x <;> simp

theorem ite_isSome {α : Type} {c : Prop} [Decidable c] {a : α} : (if c then some a else none).isSome = true ↔ c := by
  split <;> simp_all

theorem readNumber_isSome {lo hi : Nat} {b : Byte} :
    (∃ n, readNumber lo hi b = some n) ↔ lo ≤ b.toNat ∧ b.toNat ≤ hi := by
  simp [readNumber_eq]

/-- A flag byte is that of its value. -/
theorem readFlag_eq {b : Byte} {x : Bool} : readFlag b = some x ↔ b = flagByte x := by
  unfold readFlag flagByte
  cases x <;> split <;> [skip; split; skip; split] <;> simp_all

theorem flag_cases {b : Byte} : (b = 0 ∨ b = 1) ↔ ∃ x, b = flagByte x := by
  simp [flagByte]

/-- The OP of an XFER is spelled by its code, and is not BROADCAST. -/
theorem readOp_eq {b : Byte} {o : Op} : readOp b = some o ↔ o ≠ .broadcast ∧ b = o.code := by
  unfold readOp
  cases o <;> split <;> [skip; split; skip; split; skip; split; skip; split] <;>
    simp_all [Op.code]

theorem flagByte_one {x : Bool} : flagByte x = 1 ↔ x = true := by cases x <;> decide
theorem flagByte_zero {x : Bool} : flagByte x = 0 ↔ x = false := by cases x <;> decide

/-! ### The kinds with more than one field -/

theorem routeSet_form {p : List Byte} : (readRouteSet p).isSome = true ↔ Kind.routeSet.HasForm p := by
  unfold readRouteSet
  split
  · simp only [Option.bind_eq_bind, bind_isSome, exists_and_right, readFlag_isSome, readIndex_isSome,
      readNumber_isSome, ite_isSome]
    simp [Kind.HasForm, number16, Nat.lt_succ_iff, Nat.mul_comm 256]
    tauto
  · rename_i h
    simp only [Option.isSome_none, Bool.false_eq_true, false_iff]
    rintro ⟨_, _, _, _, _, _, _, _, _, _, _, rfl, -⟩
    exact h _ _ _ _ _ _ _ _ _ _ _ rfl

theorem branchSet_form {p : List Byte} : (readBranchSet p).isSome = true ↔ Kind.branchSet.HasForm p := by
  unfold readBranchSet
  split
  · simp only [Option.bind_eq_bind, bind_isSome, exists_and_right, readFlag_isSome, readIndex_isSome, readNumber_isSome,
      readBranchSpeed_isSome, Option.isSome_some]
    simp [Kind.HasForm]
    omega
  · rename_i h
    simp only [Option.isSome_none, Bool.false_eq_true, false_iff]
    rintro ⟨_, _, _, _, _, rfl, -⟩
    exact h _ _ _ _ _ rfl

theorem broadcast_form {p : List Byte} : (readBroadcast p).isSome = true ↔ Kind.broadcast.HasForm p := by
  unfold readBroadcast
  split
  · rename_i b u rest
    simp only [Option.bind_eq_bind, bind_isSome, Prod.exists]
    constructor
    · rintro ⟨_, hb, _, hu, data, left, hd, hl⟩
      replace hb := readIndex_isSome.1 ⟨_, hb⟩
      replace hu := readFlag_isSome.1 ⟨_, hu⟩
      obtain ⟨n, rfl, hn, hlo, hhi⟩ := readList_eq.1 hd
      split at hl
      · exact ⟨b, u, n, data, by simp, by simp; omega, hu, hn, hlo, hhi⟩
      · simp at hl
    · rintro ⟨b', u', n, data, he, hb, hu, hn, hlo, hhi⟩
      simp only [List.cons_append, List.nil_append, List.cons.injEq] at he
      obtain ⟨rfl, rfl, rfl⟩ := he
      obtain ⟨i, hi⟩ := readIndex_isSome.2 (Nat.lt_succ_of_le hb.2)
      obtain ⟨x, hx⟩ := readFlag_isSome.2 hu
      exact ⟨i, hi, x, hx, data, [], readList_eq.2 ⟨n, by simp, hn, hlo, hhi⟩, rfl⟩
  · rename_i h
    simp only [Option.isSome_none, Bool.false_eq_true, false_iff]
    rintro ⟨_, _, _, _, rfl, -⟩
    exact h _ _ _ rfl

theorem xfer_form {p : List Byte} : (readXfer p).isSome = true ↔ Kind.xfer.HasForm p := by
  unfold readXfer
  split
  · rename_i r o u po pr rest
    simp only [Option.bind_eq_bind, bind_isSome, Prod.exists]
    constructor
    · rintro ⟨_, hr, op, hop, urgent, hu, posted, hpo, probe, hpr, data, left, hd, hl⟩
      obtain ⟨n, rfl, hn, -, hhi⟩ := readList_eq.1 hd
      rw [readOp_eq] at hop
      rw [readFlag_eq] at hu hpo hpr
      obtain ⟨hb, rfl⟩ := hop
      subst hu hpo hpr
      split at hl
      · simp only [bind_isSome, readNumber_eq, ite_isSome, XferForm.legal_iff] at hl
        obtain ⟨_, ⟨hc, rfl⟩, legal⟩ := hl
        have hi := readIndex_isSome.1 ⟨_, hr⟩
        refine ⟨r, _, _, _, _, n, data, _, rfl, ⟨Nat.zero_le _, by omega⟩, flag_cases.2 ⟨_, rfl⟩,
          flag_cases.2 ⟨_, rfl⟩, flag_cases.2 ⟨_, rfl⟩, ⟨hn, Nat.zero_le _, hhi⟩, hc, ?_, ?_⟩
        · rcases legal.1 with ⟨h, hz⟩ | ⟨h, hz⟩ | ⟨h, hz⟩
          · exact .inl ⟨by simp_all [Op.code], BitVec.eq_of_toNat_eq hz⟩
          · exact .inr (.inl ⟨by simp_all [Op.code], hz⟩)
          · exact .inr (.inr ⟨by simp_all [Op.code], hz⟩)
        · intro h
          obtain ⟨h1, h2, h3⟩ := legal.2 (flagByte_one.1 h)
          exact ⟨by simp_all [Op.code], h2, flagByte_zero.2 h3⟩
      · simp at hl
    · rintro ⟨r', o', u', po', pr', n, data, c, he, hr, hu, hpo, hpr, ⟨hn, -, hhi⟩, hc, hl, hp⟩
      simp only [List.cons_append, List.nil_append, List.cons.injEq] at he
      obtain ⟨rfl, rfl, rfl, rfl, rfl, rfl⟩ := he
      obtain ⟨i, hi⟩ := readIndex_isSome.2 (Nat.lt_succ_of_le hr.2)
      obtain ⟨urgent, rfl⟩ := flag_cases.1 hu
      obtain ⟨posted, rfl⟩ := flag_cases.1 hpo
      obtain ⟨probe, rfl⟩ := flag_cases.1 hpr
      obtain ⟨op, hb, rfl⟩ : ∃ op : Op, op ≠ .broadcast ∧ o = op.code := by
        rcases hl with h | h | h
        · exact ⟨.write, by decide, h.1⟩
        · exact ⟨.read, by decide, h.1⟩
        · exact ⟨.writeRead, by decide, h.1⟩
      refine ⟨i, hi, op, readOp_eq.2 ⟨hb, rfl⟩, urgent, readFlag_eq.2 rfl, posted, readFlag_eq.2 rfl, probe,
        readFlag_eq.2 rfl, data, [c], readList_eq.2 ⟨n, by simp, hn, Nat.zero_le _, hhi⟩, ?_⟩
      simp only [bind_isSome, readNumber_eq, ite_isSome, XferForm.legal_iff]
      refine ⟨_, ⟨hc, rfl⟩, ?_, ?_⟩
      · cases op <;> simp_all [Op.code]
      · intro h
        obtain ⟨h1, h2, h3⟩ := hp (flagByte_one.2 h)
        exact ⟨by cases op <;> simp_all [Op.code], h2, flagByte_zero.1 h3⟩
  · rename_i h
    simp only [Option.isSome_none, Bool.false_eq_true, false_iff]
    rintro ⟨_, _, _, _, _, _, _, _, rfl, -⟩
    exact h _ _ _ _ _ _ rfl

theorem watchSet_form {p : List Byte} : (readWatchSet p).isSome = true ↔ Kind.watchSet.HasForm p := by
  unfold readWatchSet
  split
  · rename_i w r e rest
    simp only [Option.bind_eq_bind, bind_isSome, Prod.exists]
    constructor
    · rintro ⟨_, hw, _, hr, _, he, lead, left, hd, hl⟩
      replace hw := readIndex_isSome.1 ⟨_, hw⟩
      replace hr := readIndex_isSome.1 ⟨_, hr⟩
      replace he := readFlag_isSome.1 ⟨_, he⟩
      obtain ⟨n, rfl, hn, hlo, hhi⟩ := readList_eq.1 hd
      split at hl
      · rename_i len high low rest
        simp only [bind_isSome, readNumber_eq, Prod.exists] at hl
        obtain ⟨_, ⟨hlen, rfl⟩, rise, _, hrise, fall, _, hfall, hl⟩ := hl
        obtain ⟨rn, rfl, hriseLen⟩ := readList_eq.1 hrise
        obtain ⟨fn, rfl, hfallLen⟩ := readList_eq.1 hfall
        split at hl
        · simp only [bind_isSome, exists_and_right, readFlag_isSome, ite_isSome] at hl
          exact ⟨w, r, e, n, lead, len, high, low, rn, rise, fn, fall, _, by simp, by omega, by omega, he,
            ⟨hn, hlo, hhi⟩, hlen, by simpa [number16, Nat.mul_comm 256] using hl.2, hriseLen, hfallLen, hl.1⟩
        · simp at hl
      · simp at hl
    · rintro ⟨w', r', e', n, lead, len, high, low, rn, rise, fn, fall, first, hp, hw, hr, he, hn, hlen, hper, hrise,
        hfall, hfirst⟩
      simp only [List.cons_append, List.nil_append, List.cons.injEq, List.append_assoc] at hp
      obtain ⟨rfl, rfl, rfl, rfl⟩ := hp
      obtain ⟨i, hi⟩ := readIndex_isSome.2 (Nat.lt_succ_of_le hw.2)
      obtain ⟨q, hq⟩ := readIndex_isSome.2 (Nat.lt_succ_of_le hr.2)
      obtain ⟨x, hx⟩ := readFlag_isSome.2 he
      refine ⟨i, hi, q, hq, x, hx, lead, _, readList_eq.2 ⟨n, rfl, hn⟩, ?_⟩
      simp only [bind_isSome, readNumber_eq, Prod.exists]
      refine ⟨_, ⟨hlen, rfl⟩, rise, _, readList_eq.2 ⟨rn, rfl, hrise⟩, fall, _, readList_eq.2 ⟨fn, rfl, hfall⟩, ?_⟩
      simp only [bind_isSome, exists_and_right, readFlag_isSome, ite_isSome]
      exact ⟨hfirst, by simpa [number16, Nat.mul_comm 256] using hper⟩
  · rename_i h
    simp only [Option.isSome_none, Bool.false_eq_true, false_iff]
    rintro ⟨_, _, _, _, _, _, _, _, _, _, _, _, _, rfl, -⟩
    exact h _ _ _ _ (by simp; exact ⟨rfl, rfl, rfl, rfl⟩)

/-! ### Every kind -/

/-- The payload has the form that the kind's reader asks for. -/
def Kind.formed (k : Kind) (payload : List Byte) : Bool :=
  match k with
  | .hello | .close | .restart => (readEmpty payload).isSome
  | .openSession => (readOpen payload).isSome
  | .status => (readStatus payload).isSome
  | .credit => (readCredit payload).isSome
  | .routeSet => (readRouteSet payload).isSome
  | .routeGet | .routeClear | .holdRelease | .presenceReset => (readRoute payload).isSome
  | .branchSet => (readBranchSet payload).isSome
  | .branchGet | .branchReset => (readBranch payload).isSome
  | .xfer => (readXfer payload).isSome
  | .broadcast => (readBroadcast payload).isSome
  | .cancel => (readCancel payload).isSome
  | .watchSet => (readWatchSet payload).isSome
  | .watchGet | .watchClear => (readWatch payload).isSome

/-- The readers accept just the payloads that have the form of their kind. -/
theorem Kind.formed_iff (k : Kind) (p : List Byte) : k.formed p = true ↔ k.HasForm p := by
  cases k
  case routeSet => exact routeSet_form
  case branchSet => exact branchSet_form
  case xfer => exact xfer_form
  case broadcast => exact broadcast_form
  case watchSet => exact watchSet_form
  all_goals
    rcases p with _ | ⟨b, _ | ⟨c, p⟩⟩ <;>
      simp [Kind.formed, Kind.HasForm, readEmpty, readOpen, readStatus, readCredit, readRoute, readBranch, readCancel,
        readWatch, Option.isSome_iff_exists, readNumber_eq, readFlag_eq, flagByte, readIndex_isSome, Nat.lt_succ_iff,
        Config.creditCap]
  have := b.isLt
  rw [← BitVec.toNat_inj]
  simp
  omega
end Sys2Proof.Machine
end

