-- ==== Sys2Proof/WellFormed.lean ====
section
/-! DEFINITION. When a command is well formed. Branches, routes, watches and slots are in range by their
types (R38, R56, R58, R146); what remains is that the engines CLOSE and RESTART find at a byte boundary
are named once each. -/

namespace Sys2Proof

/-- No branch is named twice. -/
def noRepeats : List BranchId → Bool
  | [] => true
  | b :: bs => !bs.contains b && noRepeats bs

/-- A command is well formed. -/
def Instr.wellFormed : Instr → Bool
  | .closeSession boundary => noRepeats boundary
  | .restart boundary => noRepeats boundary
  | .fullReset _ _ _ => true
  | .byteArrives _ => true
  | .gapIntervalExpires => true
  | .transmitStart => true
  | .frameTransmitted => true
  | .restartEffects => true
  | .requestOfUnknownKind => true
  | .hello => true
  | .openSession => true
  | .closeProcedureCompletes => true
  | .status => true
  | .credit => true
  | .routeSet => true
  | .routeGet => true
  | .routeClear => true
  | .holdRelease => true
  | .presenceReset => true
  | .branchSet => true
  | .branchGet => true
  | .branchReset => true
  | .xfer => true
  | .broadcast => true
  | .cancel _ => true
  | .watchSet => true
  | .watchGet => true
  | .watchClear => true
  | .jobDeadlineExpires _ _ => true
  | .retryWaitEnds _ => true
  | .busFreeSet _ => true
  | .stuckLineIntervalExpires _ => true
  | .startPhaseDone _ => true
  | .addressPhaseDone _ _ => true
  | .writingByteDone _ _ => true
  | .readingByteDone _ _ => true
  | .restartPhaseDone _ => true
  | .stoppingDone _ => true
  | .stretchIntervalExpires _ _ => true
  | .contradiction _ _ => true
  | .recoveryClockIntervalExpires _ => true
  | .recoveryPulseDone _ _ => true
  | .recoveryStopDone _ _ => true
  | .watchCountdownExpires _ => true
  | .waitingLateFailureCarriedOut _ => true
  | .branchLineLevelChange _ _ _ => true

end Sys2Proof
end

