-- ==== Sys2Proof/Tests/Slice0.lean ====
section
/-! SUPPORT. Tests whose expected results are the spec's own examples or hand calculation from its tables, and, for every
obligation with hypotheses, a witness: a concrete state and operands that meet them, clause by clause. -/

namespace Sys2Proof.Tests

/- One theorem at a time: a hundred kernel evaluations at once open more threads than the check's memory holds. -/
set_option Elab.async false

open Sys2Proof Sys2Proof.Machine

/-! ### WellFormed -/

theorem test_wellFormed_close_repeats : (Instr.closeSession [0, 0]).wellFormed = false := by decide
theorem test_wellFormed_restart_repeats : (Instr.restart [2, 1, 2]).wellFormed = false := by decide
theorem test_wellFormed_close : (Instr.closeSession [3, 0]).wellFormed = true := by decide

/-! ### The spec's examples -/

/-- 01, after R3: the nine ASCII characters "123456789" give 0x29B1. -/
theorem test_crc : crc [0x31, 0x32, 0x33, 0x34, 0x35, 0x36, 0x37, 0x38, 0x39] = 0x29B1 := by decide +kernel

/-- 01, after R3: the HELLO request with TAG 0x01 on the line. -/
theorem test_hello_on_the_line : Frame.wire ⟨0x01, 0x01, []⟩ = [0xC3, 0x02, 0x01, 0x01, 0x81, 0xEC] := by
  decide +kernel

/-- The same frame received. -/
theorem test_hello_received : assemble [0x02, 0x01, 0x01, 0x81, 0xEC] = .good ⟨0x01, 0x01, []⟩ 5 := by decide +kernel

/-- 11, the session example: the payload of the XFER of tag 5. -/
theorem test_xfer_payload : readXfer [0, 1, 0, 0, 0, 0, 2] = some ⟨0, .read, false, false, false, [], 2⟩ := by decide

/-- R59: an XFER whose OP is the code of BROADCAST has no form. -/
theorem test_xfer_op_three : readXfer [0, 3, 0, 0, 0, 0, 2] = none := by decide

/-- 05, the stretch example: 0x4A is written as 0x94 and read as 0x95. -/
theorem test_address_bytes :
    let s := State.reset.setRoute 6 { Route.reset with config := some ⟨2, 0x4A, 0, 5, 50, true, 1, 1, false⟩ }
    let j : Job := ⟨0, .host 0x31, some 6, 2, .writeRead, [0x10], 2, false, none, 0, 50, 0, 0, .active, 0, [], false, none⟩
    s.addressByte j false = 0x94 ∧ s.addressByte j true = 0x95 := by decide +kernel

/-- 05, the cancel example: a cancelled WRITE of 4 bytes stops after byte 1, and completes after byte 3. -/
theorem test_cancel_meets_write :
    let j : Job := ⟨0, .host 0x40, some 4, 0, .write, [0xA0, 0xA1, 0xA2, 0xA3], 0, false, none, 0, 50, 0, 0,
      .ending .cancel, 1, [], true, some 0x41⟩
    j.afterWritten 1 = .stopping (.byteBoundary .cancel) ∧ j.afterRefusedByte 1 = .stopping (.byteBoundary .cancel) ∧
      j.afterWritten 3 = .stopping .completed := by decide

/-- A job of the urgent example: its slot, route and URGENT. -/
def queued (slot : SlotId) (route : RouteId) (urgent : Bool) : Job :=
  ⟨slot, .host 0x11, some route, 0, .read, [], 1, urgent, none, 0, 50, 0, 0, .queued, 0, [], false, none⟩

/-- 04, the urgent example: J4 joins at the head, and J5 after J3. -/
theorem test_urgent_places :
    let j4 := queued 4 3 true
    let j5 := queued 5 1 true
    let q := [queued 1 1 false, queued 2 2 false, queued 3 1 false]
    (placeJob j4 q).map (·.slot) = [4, 1, 2, 3] ∧
      (placeJob j5 (placeJob j4 q)).map (·.slot) = [4, 1, 2, 3, 5] := by decide

/-- 08, after the example: with QUALIFY 1 a good poll in ABSENT makes two changes. -/
theorem test_presence_twice :
    presenceChanges ⟨3, 0x2C, 1, 5, 50, false, 1, 3, true⟩ 1 0 .absent .good = [.suspect, .present] := by decide

/-- 08, the example: with QUALIFY 2 it makes one. -/
theorem test_presence_once :
    presenceChanges ⟨3, 0x2C, 1, 5, 50, false, 2, 3, true⟩ 1 0 .absent .good = [.suspect] := by decide

/-- 09, the fan example: bit 0 rises (0x0110 to 0x0111), and bit 1 falls unmasked (0x0112 to 0x0110). -/
theorem test_changed_masks :
    changedMask [0x01, 0x10] [0x01, 0x11] [0x00, 0x03] [0x00, 0x01] = [0x00, 0x01] ∧
      changedMask [0x01, 0x12] [0x01, 0x10] [0x00, 0x03] [0x00, 0x01] = [0x00, 0x00] := by decide

/-- 00, Counters: SEQ and post numbers skip 0, and GENERATION does not. -/
theorem test_wraps : nextNumber 65535 = 1 ∧ nextGeneration 255 = 0 ∧ bump 255 255 = 255 := by decide

/-! ### States for the witnesses -/

/-- A request of a kind with TAG 1, alone in the receive queue. -/
def asked (k : Kind) (payload : List Byte) : Frame := ⟨k.code, 1, payload⟩

def asking (s : State) (k : Kind) (payload : List Byte) : State := { s with rxQueue := [asked k payload] }

/-- The session OPEN. -/
def opened : State := { State.reset with session := .opened }

/-- A device, as route 0 of the session example names it. -/
def device : RouteConfig := ⟨0, 0x48, 1, 5, 50, true, 1, 2, true⟩

/-- OPEN, with route 0 naming the device and changed by `f`. -/
def withRoute (f : Route → Route) : State := opened.setRoute 0 (f { Route.reset with config := some device })

def fan : WatchConfig := ⟨true, 0, [0x05], 1, 100, [0x03], [0x01], true⟩

/-- OPEN, with route 0 naming the device and watch 0 reading it, changed by `f`. -/
def withWatch (f : Watch → Watch) : State :=
  (withRoute id).setWatch 0 (f { Watch.reset with config := some fan, armed := true })

/-- An owed WRITE of two bytes to route 0, under TAG 7. -/
def job : Job :=
  ⟨0, .host 7, some 0, 0, .write, [0xA0, 0xA1], 0, false, none, 0, 50, 0, 0, .queued, 0, [], false, none⟩

/-- A poll of watch 0 in slot 0. -/
def poll : Job := { job with origin := .watch 0, op := .writeRead, readCount := 1 }

/-- Route 0 configured, and branch 0 with an engine and a queue, at time 60. -/
def busy (e : Engine) (q : List Job) : State :=
  let s := (withRoute fun r => { r with jobs := q.length })
  { s.setBranch 0 { s.branch 0 with engine := e, queue := q } with now := 60 }

/-- The engine conducts the job in a phase. -/
def conducting (p : Phase) (j : Job) : State := busy (.active ⟨0, p, some ⟨35, 25⟩⟩) [j]

/-- Branch 0 with an engine and its lines. -/
def lined (e : Engine) (lines : Lines) : State :=
  { opened.setBranch 0 { opened.branch 0 with engine := e, lines := lines } with now := 60 }

/-- A recovery at a step. -/
def recovery (step : RecoveryStep) (pulses : Nat) : Recovery :=
  ⟨.busFault, step, pulses, some ⟨35, 25⟩, some ⟨.data, ⟨35, 25⟩⟩⟩

/-- R7: a byte 7 ms after the last one finds the frame abandoned, and is examined in HUNT. -/
theorem test_overdue_byte :
    let s : State := { State.reset with receiver := ⟨.body, [2], some 7⟩, now := 14 }
    (s.receive 0xC3).receiver = ⟨.length, [], some 14⟩ ∧ (s.receive 0xC3).counters.gapErrors = 1 := by decide +kernel

/-- 06, the CANCEL and loss example (R94, R103): a byte on its acknowledge bit is in READ_DATA; one in progress is not. -/
theorem test_byte_received_in_full :
    let j : Job := ⟨0, .host 7, some 0, 0, .read, [], 4, false, none, 0, 50, 0, 0, .active, 0, [1, 2, 3], true, none⟩
    (j.withReceived (.reading 3) (some 4)).readData = [1, 2, 3, 4] ∧
      (j.withReceived (.reading 3) none).readData = [1, 2, 3] := by decide

/-- R110: the clock line, seen high in the STOP step and then low again, is found low on entry to IDLE_WAIT and timed. -/
theorem test_clock_low_after_stop :
    let r := ((recovery .stop 9).onLine .clock true).onLine .clock false
    let br := (lined (.recovering r) ⟨false, false⟩).branch 0
    stuckOnEntry 60 25 (br.stopMade r true).lines = some ⟨.clock, ⟨60, 25⟩⟩ ∧
      stuckOnEntry 60 25 (br.stopMade (recovery .stop 9) true).lines = none := by decide +kernel

/-- R96: the clock line seen high stops the stretch interval, and seen low again begins another. -/
theorem test_stretch_stops :
    let c : Conduct := ⟨0, .writing 0, some ⟨35, 25⟩⟩
    (c.onLine 60 25 .clock true).stretch = none ∧
      ((c.onLine 60 25 .clock true).onLine 61 25 .clock false).stretch = some ⟨61, 25⟩ := by decide

/-! ### The records of hypotheses, from facts that compute -/

theorem ready_intro {s : State} {f : Frame} {rest : List Frame}
    (h : s.rxQueue = f :: rest ∧ s.taking = none ∧ s.session ≠ .closing ∧ s.intakeStopped = false ∧
      s.replies.length + s.owedTags.length ≤ 31) : ReadyToTake s f rest :=
  ⟨h.1, h.2.1, h.2.2.1, h.2.2.2.1, h.2.2.2.2⟩

theorem asks_intro {s : State} {f : Frame} {rest : List Frame} {k : Kind}
    (h : s.rxQueue = f :: rest ∧ s.taking = none ∧ s.session ≠ .closing ∧ s.intakeStopped = false ∧
      s.replies.length + s.owedTags.length ≤ 31) (hk : f.kind = k.code ∧ f.tag ≠ 0) : Asks s f rest k :=
  ⟨ready_intro h, hk.1, hk.2⟩

theorem asksOpen_intro {s : State} {f : Frame} {rest : List Frame} {k : Kind}
    (h : s.rxQueue = f :: rest ∧ s.taking = none ∧ s.session ≠ .closing ∧ s.intakeStopped = false ∧
      s.replies.length + s.owedTags.length ≤ 31) (hk : f.kind = k.code ∧ f.tag ≠ 0)
    (ho : s.session = .opened ∧ f.tag ∉ s.owedTags) : AsksOpen s f rest k :=
  ⟨asks_intro h hk, ho.1, ho.2⟩

theorem pool_intro {s : State} (h : (∀ b : BranchId, ∀ j ∈ (s.branch b).queue, j.branch = b) ∧
    (s.jobs.map (·.slot)).Nodup ∧ s.jobs.countP Job.isHost ≤ 20) : PoolLaw s :=
  ⟨h.1, h.2.1, h.2.2⟩

theorem conducts_intro {s : State} {b : BranchId} {c : Conduct} {j : Job} (hp : PoolLaw s)
    (h : (s.branch b).engine = .active c ∧ j ∈ (s.branch b).queue ∧ j.slot = c.slot) : Conducts s b c j :=
  ⟨hp, h.1, h.2.1, h.2.2⟩

/-! ### Witnesses: the link -/

theorem witness_EmptyQueueLetsOneMsPass : State.reset.pending = [] := rfl

theorem witness_FrameCrossesTheLink :
    let f : Frame := ⟨0x3F, 1, List.replicate 240 0xC3⟩
    let s : State := { State.reset with rxQueue := List.replicate 3 ⟨1, 1, []⟩ }
    f.payload.length ≤ 240 ∧ f.kind.toNat < 0x40 ∧ s.receiver = ⟨.hunt, [], none⟩ ∧ s.rxQueue.length < 4 := by
  decide +kernel

theorem witness_HuntAndLengthBytes :
    State.reset.receiver = ⟨.hunt, [], none⟩ ∧ (0xC2 : Byte) ≠ 0xC3 ∧
      { State.reset with receiver := ⟨.length, [], some 0⟩ }.receiver = ⟨.length, [], some 0⟩ ∧
      { State.reset with now := 6 }.now ≤ 0 + 6 ∧ 0 + 6 < { State.reset with now := 7 }.now ∧
      { State.reset with receiver := ⟨.length, [], some 0⟩ }.receiver.gap = some 0 ∧
      2 ≤ (2 : Byte).toNat ∧ (242 : Byte).toNat ≤ 242 ∧ (1 : Byte).toNat < 2 ∧ 242 < (243 : Byte).toNat := by
  decide +kernel

theorem witness_JudgedFrame :
    let f : Frame := ⟨0x01, 0x01, []⟩
    let held : List Byte := [0x02, 0x01, 0x01, 0x81]
    let s : State := { State.reset with receiver := ⟨.check, held, some 0⟩, now := 6 }
    let rescanned : State := { State.reset with receiver := ⟨.check, [0x02, 0xC3, 0x02, 0x01], some 0⟩ }
    (f.payload.length ≤ 240 ∧ f.wire = 0xC3 :: held ++ [0xEC] ∧ s.receiver = ⟨.check, held, some 0⟩ ∧ s.now ≤ 0 + 6) ∧
      (rescanned.receiver = ⟨.check, 2 :: [0xC3, 0x02] ++ [0x01], some 0⟩ ∧ rescanned.now ≤ 0 + 6 ∧
        ([0x01, 0x00] : List Byte) ≠ checkBytes (2 :: [0xC3, 0x02])) ∧
      (2 ≤ (2 : Byte).toNat ∧ (2 : Byte).toNat ≤ 242 ∧ ([0x01, 0x01] : List Byte).length = (2 : Byte).toNat ∧
        s.receiver = ⟨.check, 2 :: [0x01, 0x01] ++ [0x81], some 0⟩ ∧
        ([0x81, 0xED] : List Byte) ≠ checkBytes (2 :: [0x01, 0x01]) ∧
        (0xC3 : Byte) ∉ ((2 :: [0x01, 0x01] ++ [0x81, 0xED] : List Byte))) := by decide +kernel

theorem witness_GapExpiryAbandonsTheFrame :
    let at_ := fun n : Nat => ({ State.reset with receiver := ⟨.body, [2], some 7⟩, now := n } : State)
    ((at_ 13).receiver.gap = some 7 ∧ 7 + 5 < (at_ 13).now) ∧ ((at_ 12).receiver.gap = some 7 ∧ (at_ 12).now ≤ 7 + 5) ∧
      State.reset.receiver.gap = none := by decide +kernel

/-- A waiting notice. -/
def notice : Notice := ⟨1, 0, false, .presence 0 .unknown .present (some .ok)⟩

theorem witness_TransmitterChoosesInOrder :
    let booted : State := { opened with bootPending := none }
    let reply : State := { booted with replies := [⟨0x81, 1, [0]⟩] }
    let waiting : State := { booted with notices := [notice], credits := 1 }
    let short : State := { booted with notices := [notice] }
    { State.reset with transmitting := some (restartReply 9).sent }.transmitting = some (restartReply 9).sent ∧
      (State.reset.transmitting = none ∧ State.reset.bootPending = some .fullReset) ∧
      (reply.transmitting = none ∧ reply.bootPending = none ∧ reply.replies = ⟨0x81, 1, [0]⟩ :: []) ∧
      (waiting.transmitting = none ∧ waiting.bootPending = none ∧ waiting.replies = [] ∧
        waiting.notices = notice :: [] ∧ waiting.session = .opened ∧ 1 ≤ waiting.credits) ∧
      (short.transmitting = none ∧ short.bootPending = none ∧ short.replies = [] ∧ short.credits = 0) := by
  decide +kernel

theorem witness_RestartEffectsFollowTheReply :
    let sending : State := { State.reset with transmitting := some (restartReply 9).sent }
    let sent : State := { State.reset with restartSent := true }
    sending.transmitting = some (restartReply 9).sent ∧ State.reset.restartSent = false ∧
      (restartReply 9).isRestartReply = true ∧ (⟨0x84, 9, [0x12]⟩ : Frame).isRestartReply = false ∧
      (sent.restartSent = true ∧ ∀ b : BranchId, (sent.branch b).queue = []) := by decide +kernel

/-! ### Witnesses: requests and the session -/

theorem witness_GeneralChecksRefuseInOrder :
    let zero : State := { State.reset with rxQueue := [⟨0x01, 0, []⟩] }
    let unknown : State := { State.reset with rxQueue := [⟨0x3F, 0, []⟩] }
    let owed : State := { asking opened .cancel [7] with pendingResets := State.reset.pendingResets.set 0 (some 1) }
    (requestKind .hello = some .hello ∧ ReadyToTake zero ⟨0x01, 0, []⟩ [] ∧ (⟨0x01, 0, []⟩ : Frame).kind = Kind.hello.code ∧
        (⟨0x01, 0, []⟩ : Frame).tag = 0) ∧
      (ReadyToTake (asking State.reset .credit [1]) (asked .credit [1]) [] ∧ (asked .credit [1]).tag ≠ 0 ∧
        (asking State.reset .credit [1]).session = .closed) ∧
      (ReadyToTake (asking opened .openSession [1]) (asked .openSession [1]) [] ∧
        (asking opened .openSession [1]).session = .opened) ∧
      (ReadyToTake (asking opened .credit [65]) (asked .credit [65]) [] ∧ ¬ Kind.credit.HasForm [65]) ∧
      (ReadyToTake (asking opened .xfer [0, 3, 0, 0, 0, 0, 2]) (asked .xfer [0, 3, 0, 0, 0, 0, 2]) [] ∧
        ¬ Kind.xfer.HasForm [0, 3, 0, 0, 0, 0, 2] ∧ ¬ Kind.xfer.HasForm [0, 1, 0, 0, 0, 0, 2, 0]) ∧
      (ReadyToTake owed (asked .cancel [7]) [] ∧ owed.session = .opened ∧ Kind.cancel.HasForm [7] ∧
        (asked .cancel [7]).tag ∈ owed.owedTags) ∧
      (ReadyToTake unknown ⟨0x3F, 0, []⟩ [] ∧ (0x3F : Byte).toNat < 0x40) :=
  ⟨⟨rfl, ready_intro (by decide +kernel), rfl, rfl⟩,
    ⟨ready_intro (by decide +kernel), by decide +kernel, rfl⟩, ⟨ready_intro (by decide +kernel), rfl⟩,
    ⟨ready_intro (by decide +kernel), mt (Kind.formed_iff _ _).2 (by decide)⟩,
    ⟨ready_intro (by decide +kernel), mt (Kind.formed_iff _ _).2 (by decide), mt (Kind.formed_iff _ _).2 (by decide)⟩,
    ⟨ready_intro (by decide +kernel), rfl, (Kind.formed_iff _ _).1 (by decide), by decide +kernel⟩,
    ⟨ready_intro (by decide +kernel), by decide +kernel⟩⟩

theorem witness_ClosedIntakeTakesNothing :
    requestKind .hello ≠ none ∧ State.reset.rxQueue = [] ∧ { State.reset with intakeStopped := true }.intakeStopped = true ∧
      { State.reset with session := .closing }.session = .closing ∧
      32 ≤ { State.reset with replies := List.replicate 32 ⟨0x81, 1, [0]⟩ }.replies.length + 0 := by decide +kernel

theorem witness_HelloReportsTheIdentity :
    Asks (asking State.reset .hello []) (asked .hello []) [] .hello ∧ (asked .hello []).payload = [] :=
  ⟨asks_intro (by decide +kernel) (by decide +kernel), rfl⟩

theorem witness_StatusReportsTheTake :
    (Asks (asking State.reset .status [0]) (asked .status [0]) [] .status ∧ (asked .status [0]).payload = [0]) ∧
      (Asks (asking opened .status [1]) (asked .status [1]) [] .status ∧ (asked .status [1]).payload = [1]) :=
  ⟨⟨asks_intro (by decide +kernel) (by decide +kernel), rfl⟩, ⟨asks_intro (by decide +kernel) (by decide +kernel), rfl⟩⟩

theorem witness_OpenStartsASession :
    let s : State := { asking (withWatch id) .openSession [64] with session := .closed }
    Asks s (asked .openSession [64]) [] .openSession ∧ s.session = .closed ∧
      (asked .openSession [64]).payload = [64] ∧ (64 : Byte).toNat ≤ 64 ∧
      ((s.watch 0).config = some fan ∧ fan.enabled = true) ∧ (s.watch 1).config = none :=
  ⟨asks_intro (by decide +kernel) (by decide +kernel), by decide +kernel⟩

theorem witness_CloseCompletes :
    let closing : State := { State.reset with session := .closing }
    let s := asking opened .close []
    (AsksOpen s (asked .close []) [] .close ∧ s.jobs = [] ∧ (∀ b : BranchId, s.pendingReset b = none) ∧
        s.pendingRestart = none) ∧
      (closing.session = .closing ∧ closing.jobs = [] ∧ (∀ b : BranchId, closing.pendingReset b = none) ∧
        { closing with pendingClose := some 9 }.pendingClose = some 9 ∧
        { closing with pendingRestart := some 9 }.pendingRestart = some 9) ∧
      State.reset.session ≠ .closing ∧ (busy .idle [job]).jobs ≠ [] ∧
      (closing.setPendingReset 2 (some 9)).pendingReset 2 ≠ none :=
  ⟨⟨asksOpen_intro (by decide +kernel) (by decide +kernel) (by decide +kernel), by decide +kernel⟩, by decide +kernel⟩

theorem witness_CloseAndRestartClearTheQueues :
    let q := [{ job with state := .active }, { job with slot := 1, origin := .host 8 },
      { job with slot := 2, origin := .host 10, post := some 4 }]
    let s := fun k : Kind => asking (busy (.active ⟨0, .writing 0, none⟩) q) k []
    let waits := fun k : Kind => asking (busy (.waitFree none) [{ job with slot := 1 }, { poll with slot := 2 }]) k []
    let resetting := (asking opened .close []).setPendingReset 3 (some 9)
    AsksOpen (s .close) (asked .close []) [] .close ∧ AsksOpen (s .restart) (asked .restart []) [] .restart ∧
      PoolLaw (s .close) ∧ PoolLaw (s .restart) ∧
      (∀ j ∈ (s .close).jobs, j.onWires = false → j.cancelTag = none) ∧
      (∃ j ∈ (s .close).jobs, j.onWires = true) ∧
      (AsksOpen (waits .close) (asked .close []) [] .close ∧ AsksOpen (waits .restart) (asked .restart []) [] .restart ∧
        PoolLaw (waits .close) ∧ PoolLaw (waits .restart) ∧ (waits .close).jobs ≠ [] ∧
        (∀ j ∈ (waits .close).jobs, j.onWires = false ∧ j.cancelTag = none) ∧
        (∀ b : BranchId, (waits .close).pendingReset b = none) ∧ (waits .close).pendingRestart = none ∧
        (waits .restart).pendingClose = none) ∧
      (AsksOpen resetting (asked .close []) [] .close ∧ PoolLaw resetting ∧ resetting.jobs = [] ∧
        resetting.pendingReset 3 ≠ none) :=
  ⟨asksOpen_intro (by decide +kernel) (by decide +kernel) (by decide +kernel),
    asksOpen_intro (by decide +kernel) (by decide +kernel) (by decide +kernel), pool_intro (by decide +kernel),
    pool_intro (by decide +kernel), by decide +kernel, by decide +kernel,
    ⟨asksOpen_intro (by decide +kernel) (by decide +kernel) (by decide +kernel),
      asksOpen_intro (by decide +kernel) (by decide +kernel) (by decide +kernel), pool_intro (by decide +kernel),
      pool_intro (by decide +kernel), by decide +kernel⟩,
    ⟨asksOpen_intro (by decide +kernel) (by decide +kernel) (by decide +kernel), pool_intro (by decide +kernel),
      by decide +kernel⟩⟩

theorem witness_RestartWithNothingToSettle :
    let s := fun t : State => asking t .restart []
    (Asks (s State.reset) (asked .restart []) [] .restart ∧ (asked .restart []).tag ∉ (s State.reset).owedTags ∧
        (s State.reset).session = .closed) ∧
      (Asks (s opened) (asked .restart []) [] .restart ∧ (s opened).session = .opened ∧ (s opened).jobs = [] ∧
        (∀ b : BranchId, (s opened).pendingReset b = none) ∧ (s opened).pendingClose = none) :=
  ⟨⟨asks_intro (by decide +kernel) (by decide +kernel), by decide +kernel⟩,
    ⟨asks_intro (by decide +kernel) (by decide +kernel), by decide +kernel⟩⟩

theorem witness_CreditAddsUpTo64 :
    let full : State := { asking opened .credit [64] with credits := 64 }
    (Asks full (asked .credit [64]) [] .credit ∧ full.session = .opened ∧ 1 ≤ (64 : Byte).toNat ∧
        (64 : Byte).toNat ≤ 64) ∧
      (Asks (asking State.reset .credit [1]) (asked .credit [1]) [] .credit ∧ State.reset.session = .closed) ∧
      (Asks (asking opened .credit [65]) (asked .credit [65]) [] .credit ∧ 64 < (65 : Byte).toNat) :=
  ⟨⟨asks_intro (by decide +kernel) (by decide +kernel), by decide +kernel⟩,
    ⟨asks_intro (by decide +kernel) (by decide +kernel), by decide +kernel⟩,
    ⟨asks_intro (by decide +kernel) (by decide +kernel), by decide +kernel⟩⟩

/-! ### Witnesses: routes, presence and watches -/

/-- The record of a hold. -/
def held : HoldRecord := ⟨4, .nackData, 2⟩

theorem device_inRange : device.InRange :=
  ⟨by decide, by decide, by decide, by decide, by decide, by decide⟩

theorem fan_inRange : fan.InRange := ⟨by decide, by decide, by decide, by decide, by decide⟩

/-- A request about route, branch or watch 0, in a state. -/
theorem asks_zero {s : State} {k : Kind} {p : List Byte}
    (h : s.session = .opened ∧ s.taking = none ∧ s.intakeStopped = false ∧ s.replies.length + s.owedTags.length ≤ 31) :
    Asks (asking s k p) (asked k p) [] k :=
  asks_intro ⟨rfl, h.2.1, by rw [show (asking s k p).session = s.session from rfl, h.1]; decide, h.2.2.1, h.2.2.2⟩
    ⟨rfl, show (1 : Byte) ≠ 0 by decide⟩

theorem asksOpen_zero {s : State} {k : Kind} {p : List Byte}
    (h : s.session = .opened ∧ s.taking = none ∧ s.intakeStopped = false ∧ s.replies.length + s.owedTags.length ≤ 31)
    (fresh : (1 : Byte) ∉ s.owedTags) : AsksOpen (asking s k p) (asked k p) [] k :=
  ⟨asks_zero h, h.1, fresh⟩

theorem witness_RouteSet :
    let p := byte 0 :: device.bytes
    let heldState := withRoute fun r => { r with hold := some held }
    let inUse := withRoute fun r => { r with jobs := 1 }
    let other := opened.setRoute 31 { Route.reset with config := some device }
    device.InRange ∧ (Asks (asking heldState .routeSet p) (asked .routeSet p) [] .routeSet ∧ (heldState.route 0).hold ≠ none) ∧
      (Asks (asking inUse .routeSet p) (asked .routeSet p) [] .routeSet ∧ (inUse.route 0).hold = none ∧
        0 < (inUse.route 0).jobs) ∧
      (Asks (asking other .routeSet p) (asked .routeSet p) [] .routeSet ∧ (other.route 0).hold = none ∧
        (other.route 0).jobs = 0 ∧ (31 : RouteId) ≠ 0 ∧ (other.route 31).config = some device) ∧
      (Asks (asking opened .routeSet p) (asked .routeSet p) [] .routeSet ∧ (opened.route 0).hold = none ∧
        (opened.route 0).jobs = 0 ∧ ∀ q : RouteId, (opened.route q).config = none) :=
  ⟨device_inRange, ⟨asks_zero (by decide +kernel), by decide +kernel⟩, ⟨asks_zero (by decide +kernel), by decide +kernel⟩,
    ⟨asks_zero (by decide +kernel), by decide +kernel⟩, ⟨asks_zero (by decide +kernel), by decide +kernel⟩⟩

theorem witness_GetsReportTheRecord :
    Asks (asking opened .routeGet [byte 31]) (asked .routeGet [byte 31]) [] .routeGet ∧
      Asks (asking opened .branchGet [byte 3]) (asked .branchGet [byte 3]) [] .branchGet ∧
      Asks (asking opened .watchGet [byte 15]) (asked .watchGet [byte 15]) [] .watchGet :=
  ⟨asks_zero (by decide +kernel), asks_zero (by decide +kernel), asks_zero (by decide +kernel)⟩

theorem witness_RouteClearAndHoldRelease :
    let ask := fun (s : State) (k : Kind) => asking s k [byte 0]
    let heldState := withRoute fun r => { r with hold := some held }
    (Asks (ask heldState .routeClear) (asked .routeClear [byte 0]) [] .routeClear ∧ (heldState.route 0).hold ≠ none) ∧
      (Asks (ask (withWatch id) .routeClear) (asked .routeClear [byte 0]) [] .routeClear ∧
        ((withWatch id).route 0).hold = none ∧ ((withWatch id).watch 0).refersTo 0 = true) ∧
      (Asks (ask opened .routeClear) (asked .routeClear [byte 0]) [] .routeClear ∧ (opened.route 0).config = none ∧
        (opened.route 0).jobs = 0 ∧ ∀ w : WatchId, (opened.watch w).refersTo 0 = false) ∧
      (Asks (ask (withRoute id) .routeClear) (asked .routeClear [byte 0]) [] .routeClear ∧
        ((withRoute id).route 0).config ≠ none ∧ ((withRoute id).route 0).jobs = 0 ∧
        ((withRoute id).route 0).hold = none ∧ ∀ w : WatchId, ((withRoute id).watch w).refersTo 0 = false) ∧
      (Asks (ask heldState .holdRelease) (asked .holdRelease [byte 0]) [] .holdRelease ∧
        (heldState.route 0).hold = some held) ∧
      (Asks (ask opened .holdRelease) (asked .holdRelease [byte 0]) [] .holdRelease ∧ (opened.route 0).hold = none) :=
  ⟨⟨asks_zero (by decide +kernel), by decide +kernel⟩, ⟨asks_zero (by decide +kernel), by decide +kernel⟩,
    ⟨asks_zero (by decide +kernel), by decide +kernel⟩, ⟨asks_zero (by decide +kernel), by decide +kernel⟩,
    ⟨asks_zero (by decide +kernel), by decide +kernel⟩, ⟨asks_zero (by decide +kernel), by decide +kernel⟩⟩

theorem witness_PresenceResetStartsAfresh :
    let ask := fun s : State => asking s .presenceReset [byte 0]
    let seen := withRoute fun r => { r with presence := .present }
    let full : State := { seen with notices := List.replicate 16 { notice with sealed := true } }
    (Asks (ask opened) (asked .presenceReset [byte 0]) [] .presenceReset ∧ (opened.route 0).config = none) ∧
      (Asks (ask (withRoute id)) (asked .presenceReset [byte 0]) [] .presenceReset ∧
        ((withRoute id).route 0).config = some device ∧ ((withRoute id).route 0).presence = .unknown) ∧
      (Asks (ask seen) (asked .presenceReset [byte 0]) [] .presenceReset ∧ (seen.route 0).config = some device ∧
        device.notify = true ∧ (seen.route 0).presence ≠ .unknown ∧ seen.notices.length < 16) ∧
      (Asks (ask full) (asked .presenceReset [byte 0]) [] .presenceReset ∧ (full.route 0).config = some device ∧
        (full.route 0).presence ≠ .unknown ∧ 16 ≤ full.notices.length) :=
  ⟨⟨asks_zero (by decide +kernel), by decide +kernel⟩, ⟨asks_zero (by decide +kernel), by decide +kernel⟩,
    ⟨asks_zero (by decide +kernel), by decide +kernel⟩, ⟨asks_zero (by decide +kernel), by decide +kernel⟩⟩

theorem witness_OutcomesMoveTheJudgement :
    ((withRoute id).route 0).config = some device ∧ classify .busFault true = .neutral ∧ classify .ok true = .good ∧
      classify .nackAddr false = .bad := by decide +kernel

theorem witness_WatchSetAndClear :
    let p := byte 0 :: fan.bytes
    let out := withWatch fun w => { w with pollOut := true }
    let wrap := withWatch fun w => { w with generation := 255 }
    fan.InRange ∧
      (Asks (asking opened .watchSet p) (asked .watchSet p) [] .watchSet ∧ (opened.route fan.route).config = none) ∧
      (Asks (asking out .watchSet p) (asked .watchSet p) [] .watchSet ∧ (out.route fan.route).config ≠ none ∧
        (out.watch 0).pollOut = true) ∧
      (Asks (asking wrap .watchSet p) (asked .watchSet p) [] .watchSet ∧ (wrap.route fan.route).config ≠ none ∧
        (wrap.watch 0).pollOut = false) ∧
      (Asks (asking opened .watchClear [byte 0]) (asked .watchClear [byte 0]) [] .watchClear ∧
        (opened.watch 0).config = none) ∧
      (Asks (asking out .watchClear [byte 0]) (asked .watchClear [byte 0]) [] .watchClear ∧
        (out.watch 0).config ≠ none) ∧
      (Asks (asking wrap .watchClear [byte 0]) (asked .watchClear [byte 0]) [] .watchClear ∧
        (wrap.watch 0).config ≠ none) :=
  ⟨fan_inRange, ⟨asks_zero (by decide +kernel), by decide +kernel⟩, ⟨asks_zero (by decide +kernel), by decide +kernel⟩,
    ⟨asks_zero (by decide +kernel), by decide +kernel⟩, ⟨asks_zero (by decide +kernel), by decide +kernel⟩,
    ⟨asks_zero (by decide +kernel), by decide +kernel⟩, ⟨asks_zero (by decide +kernel), by decide +kernel⟩⟩

theorem witness_ExpiryPollsOrMisses :
    let s := withWatch id
    let out := withWatch fun w => { w with pollOut := true }
    PoolLaw s ∧ PoolLaw out ∧ (s.watch 1).config = none ∧
      ((s.watch 0).config = some fan ∧ (s.watch 0).armed = true ∧ (s.watch 0).countdown = 0 ∧
        (s.route fan.route).config = some device ∧ (s.watch 0).pollOut = false ∧ (s.route fan.route).hold = none ∧
        (s.branch device.branch).down = false ∧ s.jobs.length < 24) ∧
      ((out.watch 0).config = some fan ∧ (out.watch 0).armed = true ∧ (out.watch 0).countdown = 0 ∧
        (out.route fan.route).config = some device ∧ (out.watch 0).pollOut = true) :=
  ⟨pool_intro (by decide +kernel), pool_intro (by decide +kernel), by decide +kernel⟩

/-! ### Witnesses: branch requests and transfers -/

theorem witness_BranchSetOnAnIdleBranch :
    let c : BranchConfig := ⟨false, .fast, 255, true⟩
    let p := branchSetBytes 0 c
    let waits := busy .idle [job]
    (Asks (asking opened .branchSet p) (asked .branchSet p) [] .branchSet ∧ 1 ≤ c.stretchLimit ∧ c.stretchLimit ≤ 255 ∧
        (opened.branch 0).engine = .idle ∧ (opened.branch 0).queue = []) ∧
      (Asks (asking waits .branchSet p) (asked .branchSet p) [] .branchSet ∧ (waits.branch 0).queue ≠ []) :=
  ⟨⟨asks_zero (by decide +kernel), by decide +kernel⟩, ⟨asks_zero (by decide +kernel), by decide +kernel⟩⟩

theorem witness_BranchResetBeginsARecovery :
    let s := fun e : Engine => lined e ⟨true, false⟩
    (AsksOpen (asking (s .off) .branchReset [byte 0]) (asked .branchReset [byte 0]) [] .branchReset ∧
        ((s .off).branch 0).engine = .off) ∧
      (AsksOpen (asking (s (.waitFree none)) .branchReset [byte 0]) (asked .branchReset [byte 0]) [] .branchReset ∧
        ((s (.waitFree none)).branch 0).engine = .waitFree none) ∧
      (AsksOpen (asking (s .isolated) .branchReset [byte 0]) (asked .branchReset [byte 0]) [] .branchReset ∧
        ((s .isolated).branch 0).engine = .isolated) :=
  ⟨⟨asksOpen_zero (by decide +kernel) (by decide +kernel), by decide +kernel⟩,
    ⟨asksOpen_zero (by decide +kernel) (by decide +kernel), by decide +kernel⟩,
    ⟨asksOpen_zero (by decide +kernel) (by decide +kernel), by decide +kernel⟩⟩

/-- An owed WRITE to route 0. -/
def owedForm : XferForm := ⟨0, .write, false, false, false, [0x07], 0⟩

/-- A posted WRITE to route 0. -/
def postedForm : XferForm := ⟨0, .write, false, true, false, [0x07], 0⟩

/-- Twenty host jobs on branch 0. -/
def fullShare : List Job := (List.range 20).map fun n => { job with slot := Fin.ofNat 24 n, origin := .host (byte (n + 20)) }

theorem witness_XferRefusedInOrder :
    let ask := fun (s : State) (x : XferForm) => asking s .xfer x.bytes
    let heldState := withRoute fun r => { r with hold := some held }
    let down := (withRoute id).setBranch 0 { (withRoute id).branch 0 with engine := .isolated }
    let absent := withRoute fun r => { r with presence := .absent }
    let noPosts := opened.setRoute 0 { Route.reset with config := some { device with posting := false } }
    let full := busy .isolated fullShare |>.setBranch 0 { opened.branch 0 with engine := .waitFree none, queue := fullShare }
    let urgentPost := { postedForm with urgent := true }
    owedForm.InRange ∧ postedForm.InRange ∧
      (Asks (ask opened urgentPost) (asked .xfer urgentPost.bytes) [] .xfer ∧ urgentPost.writeData.length ≤ 32 ∧
        urgentPost.readCount ≤ 32 ∧ ¬ urgentPost.IsLegal) ∧
      (AsksOpen (ask opened owedForm) (asked .xfer owedForm.bytes) [] .xfer ∧ PoolLaw (ask opened owedForm) ∧
        (opened.route 0).config = none) ∧
      (AsksOpen (ask heldState owedForm) (asked .xfer owedForm.bytes) [] .xfer ∧ PoolLaw (ask heldState owedForm) ∧
        (heldState.route 0).hold ≠ none) ∧
      (AsksOpen (ask down owedForm) (asked .xfer owedForm.bytes) [] .xfer ∧ PoolLaw (ask down owedForm) ∧
        (down.branch 0).down = true) ∧
      (AsksOpen (ask absent postedForm) (asked .xfer postedForm.bytes) [] .xfer ∧ PoolLaw (ask absent postedForm) ∧
        (absent.route 0).presence = .absent) ∧
      (AsksOpen (ask noPosts postedForm) (asked .xfer postedForm.bytes) [] .xfer ∧ PoolLaw (ask noPosts postedForm) ∧
        (noPosts.route 0).presence ≠ .absent) ∧
      (AsksOpen (ask full owedForm) (asked .xfer owedForm.bytes) [] .xfer ∧ PoolLaw (ask full owedForm) ∧
        20 ≤ full.jobs.countP Job.isHost ∧ (full.branch 0).down = false) :=
  ⟨⟨by decide, by decide, (XferForm.legal_iff _).1 (by decide)⟩, ⟨by decide, by decide, (XferForm.legal_iff _).1 (by decide)⟩,
    ⟨asks_zero (by decide +kernel), by decide, by decide, mt (XferForm.legal_iff _).2 (by decide)⟩,
    ⟨asksOpen_zero (by decide +kernel) (by decide +kernel), pool_intro (by decide +kernel), by decide +kernel⟩,
    ⟨asksOpen_zero (by decide +kernel) (by decide +kernel), pool_intro (by decide +kernel), by decide +kernel⟩,
    ⟨asksOpen_zero (by decide +kernel) (by decide +kernel), pool_intro (by decide +kernel), by decide +kernel⟩,
    ⟨asksOpen_zero (by decide +kernel) (by decide +kernel), pool_intro (by decide +kernel), by decide +kernel⟩,
    ⟨asksOpen_zero (by decide +kernel) (by decide +kernel), pool_intro (by decide +kernel), by decide +kernel⟩,
    ⟨asksOpen_zero (by decide +kernel) (by decide +kernel), pool_intro (by decide +kernel), by decide +kernel⟩⟩

theorem witness_XferBecomesAJob :
    let s := withRoute id
    (AsksOpen (asking s .xfer owedForm.bytes) (asked .xfer owedForm.bytes) [] .xfer ∧
        PoolLaw (asking s .xfer owedForm.bytes)) ∧
      (AsksOpen (asking s .xfer postedForm.bytes) (asked .xfer postedForm.bytes) [] .xfer ∧
        PoolLaw (asking s .xfer postedForm.bytes)) ∧
      ((s.route 0).config = some device ∧ (s.route 0).hold = none ∧ (s.branch device.branch).down = false ∧
        (s.route 0).presence ≠ .absent ∧ device.posting = true ∧ s.jobs.countP Job.isHost < 20 ∧ s.jobs.length < 24) :=
  ⟨⟨asksOpen_zero (by decide +kernel) (by decide +kernel), pool_intro (by decide +kernel)⟩,
    ⟨asksOpen_zero (by decide +kernel) (by decide +kernel), pool_intro (by decide +kernel)⟩, by decide +kernel⟩

theorem witness_BroadcastBecomesAJob :
    let x : BroadcastForm := ⟨0, true, List.replicate 32 0xAA⟩
    let ask := fun s : State => asking s .broadcast x.bytes
    let down := opened.setBranch 0 { opened.branch 0 with engine := .off }
    let full := (withRoute id).setBranch 0 { opened.branch 0 with engine := .waitFree none, queue := fullShare }
    (1 ≤ x.writeData.length ∧ x.writeData.length ≤ 32) ∧
      (AsksOpen (ask down) (asked .broadcast x.bytes) [] .broadcast ∧ PoolLaw (ask down) ∧ (down.branch 0).down = true) ∧
      (AsksOpen (ask full) (asked .broadcast x.bytes) [] .broadcast ∧ PoolLaw (ask full) ∧
        (full.branch 0).down = false ∧ 20 ≤ full.jobs.countP Job.isHost) ∧
      (AsksOpen (ask opened) (asked .broadcast x.bytes) [] .broadcast ∧ PoolLaw (ask opened) ∧
        (opened.branch 0).down = false ∧ opened.jobs.countP Job.isHost < 20 ∧ opened.jobs.length < 24) :=
  ⟨by decide +kernel,
    ⟨asksOpen_zero (by decide +kernel) (by decide +kernel), pool_intro (by decide +kernel), by decide +kernel⟩,
    ⟨asksOpen_zero (by decide +kernel) (by decide +kernel), pool_intro (by decide +kernel), by decide +kernel⟩,
    ⟨asksOpen_zero (by decide +kernel) (by decide +kernel), pool_intro (by decide +kernel), by decide +kernel⟩⟩

theorem witness_QueuePlaceAndSelection :
    (queued 4 3 true).urgent = true ∧ (queued 1 1 false).urgent = false ∧
      firstEligible [] [queued 1 1 false] = some (queued 1 1 false) ∧ firstEligible [] [] = none := by decide

theorem witness_SelectedJobStartsByTheMonitor :
    let s := busy .idle [job]
    (State.reset.branch 0).engine = .idle ∧ ((busy .off []).branch 0).engine ≠ .idle ∧
      firstEligible [] (State.reset.branch 0).queue = none ∧
      ((s.branch 0).engine = .idle ∧ firstEligible [] (s.branch 0).queue = some job ∧ job.branch = 0) := by decide +kernel

theorem witness_CancelAndTheByteBoundary :
    let s := fun (e : Engine) (st : JobState) => busy e [{ job with state := st }]
    let on := Engine.active ⟨0, .writing 0, none⟩
    let all := fun (t : State) (st : JobState) => ({ job with state := st } : Job) ∈ t.jobs ∧
      ({ job with state := st } : Job).owedTag = some 7 ∧
      (∀ i ∈ t.jobs, i.owedTag = some 7 → i = { job with state := st }) ∧
      ({ job with state := st } : Job).cancelTag = none
    let cancelled : Job := { job with state := .ending .cancel, cancelTag := some 8 }
    let again := busy on [cancelled]
    AsksOpen (asking (s .idle .queued) .cancel [7]) (asked .cancel [7]) [] .cancel ∧
      AsksOpen (asking (s .idle (.retryWait 61)) .cancel [7]) (asked .cancel [7]) [] .cancel ∧
      AsksOpen (asking (s on .active) .cancel [7]) (asked .cancel [7]) [] .cancel ∧
      AsksOpen (asking again .cancel [7]) (asked .cancel [7]) [] .cancel ∧
      AsksOpen (asking (s on (.ending .deadline)) .cancel [7]) (asked .cancel [7]) [] .cancel ∧
      AsksOpen (asking opened .cancel [7]) (asked .cancel [7]) [] .cancel ∧
      (∀ j ∈ opened.jobs, j.owedTag ≠ some 7) ∧ all (s .idle .queued) .queued ∧
      all (s .idle (.retryWait 61)) (.retryWait 61) ∧ all (s on .active) .active ∧
      (cancelled ∈ again.jobs ∧ cancelled.owedTag = some 7 ∧ (∀ i ∈ again.jobs, i.owedTag = some 7 → i = cancelled) ∧
        cancelled.state = .ending .cancel) ∧
      all (s on (.ending .deadline)) (.ending .deadline) :=
  ⟨asksOpen_zero (by decide +kernel) (by decide +kernel), asksOpen_zero (by decide +kernel) (by decide +kernel),
    asksOpen_zero (by decide +kernel) (by decide +kernel), asksOpen_zero (by decide +kernel) (by decide +kernel),
    asksOpen_zero (by decide +kernel) (by decide +kernel), asksOpen_zero (by decide +kernel) (by decide +kernel),
    by decide +kernel⟩

theorem witness_DeadlineActsByTheJobsState :
    let s := fun (e : Engine) (st : JobState) => busy e [{ job with state := st }]
    let on := Engine.active ⟨0, .writing 0, none⟩
    let closing : State := { (s on (.ending .close)) with session := .closing }
    PoolLaw (s .idle .queued) ∧ PoolLaw (s .idle (.retryWait 61)) ∧ PoolLaw (s on .active) ∧
      PoolLaw (s on (.ending .deadline)) ∧ PoolLaw (busy .idle [poll]) ∧
      ((s .idle .queued).session = .opened ∧ job ∈ (s .idle .queued).jobs ∧ job.deadlineAt ≤ (s .idle .queued).now ∧
        job.owedTag = some 7 ∧ job.cancelTag = none) ∧
      (poll ∈ (busy .idle [poll]).jobs ∧ poll.origin = .watch 0 ∧ poll.route = some 0) ∧
      (∀ j ∈ (s .idle .queued).jobs, j.slot ≠ 23) ∧
      (({ job with state := .ending .close } : Job) ∈ closing.jobs ∧ job.deadlineAt ≤ closing.now ∧
        closing.session = .closing) ∧
      { busy .idle [job] with now := 49 }.now < job.deadlineAt :=
  ⟨pool_intro (by decide +kernel), pool_intro (by decide +kernel), pool_intro (by decide +kernel),
    pool_intro (by decide +kernel), pool_intro (by decide +kernel), by decide +kernel⟩

theorem witness_RetryWaitEndsInPlace :
    let s := fun st : JobState => busy .idle [{ job with state := st }]
    PoolLaw (s (.retryWait 61)) ∧ PoolLaw (s (.retryWait 60)) ∧ PoolLaw (s .queued) ∧
      (s (.retryWait 61)).now < 61 ∧ 60 ≤ (s (.retryWait 60)).now ∧
      ({ job with state := .retryWait 60 } : Job) ∈ (s (.retryWait 60)).jobs ∧
      (∀ j ∈ (s .queued).jobs, j.slot ≠ 1) :=
  ⟨pool_intro (by decide +kernel), pool_intro (by decide +kernel), pool_intro (by decide +kernel), by decide +kernel⟩

/-! ### Witnesses: the line monitor and recovery -/

theorem witness_BusFreeEndsTheWaits :
    let s := fun e : Engine => lined e ⟨true, true⟩
    ((lined .idle ⟨true, false⟩).branch 0).lines ≠ ⟨true, true⟩ ∧
      (((s .idle).branch 0).busFree = false ∧ ((s .idle).branch 0).lines = ⟨true, true⟩ ∧
        ((s .idle).branch 0).engine = .idle) ∧
      ((s (.waitFree none)).branch 0).engine = .waitFree none ∧
      (((s (.recovering (recovery .idleWait 9))).branch 0).engine = .recovering (recovery .idleWait 9) ∧
        (recovery .idleWait 9).step = .idleWait) := by decide +kernel

theorem witness_LineChangesAreSeen :
    let s := fun e : Engine => lined e ⟨false, true⟩
    ((s .idle).branch 0).lines = ⟨false, true⟩ ∧ (⟨true, true⟩ : Lines) ≠ ⟨false, true⟩ ∧
      ((s (.active ⟨0, .start, none⟩)).branch 0).engine = .active ⟨0, .start, none⟩ ∧
      ((s (.waitFree none)).branch 0).engine = .waitFree none ∧
      ((s (.active ⟨0, .writing 0, some ⟨35, 25⟩⟩)).branch 0).engine = .active ⟨0, .writing 0, some ⟨35, 25⟩⟩ ∧
      ((s (.recovering (recovery .release 0))).branch 0).engine = .recovering (recovery .release 0) ∧
      (recovery .release 0).step = .release ∧ (recovery .pulsing 1).step = .pulsing ∧ (recovery .stop 1).step = .stop ∧
      (recovery .idleWait 9).step = .idleWait := by decide +kernel

theorem witness_StuckLineBeginsARecovery :
    let s := fun (line : BusLine) (since : Nat) (lines : Lines) => lined (.waitFree (some ⟨line, ⟨since, 25⟩⟩)) lines
    let waits : State := { (lined (.recovering (recovery .idleWait 9)) ⟨true, false⟩) with now := 59 }
    (((s .clock 36 ⟨false, true⟩).branch 0).engine = .waitFree (some ⟨.clock, ⟨36, 25⟩⟩) ∧
        (s .clock 36 ⟨false, true⟩).now < 36 + 25) ∧
      (((s .clock 35 ⟨false, true⟩).branch 0).engine = .waitFree (some ⟨.clock, ⟨35, 25⟩⟩) ∧
        35 + 25 ≤ (s .clock 35 ⟨false, true⟩).now ∧ ((s .clock 35 ⟨false, true⟩).branch 0).lines.clockHigh = false) ∧
      (((s .data 35 ⟨true, false⟩).branch 0).engine = .waitFree (some ⟨.data, ⟨35, 25⟩⟩) ∧
        35 + 25 ≤ (s .data 35 ⟨true, false⟩).now ∧ ((s .data 35 ⟨true, false⟩).branch 0).lines = ⟨true, false⟩) ∧
      ((waits.branch 0).engine = .recovering (recovery .idleWait 9) ∧ (recovery .idleWait 9).step = .idleWait ∧
          (recovery .idleWait 9).stuck = some ⟨.data, ⟨35, 25⟩⟩ ∧ waits.now < 35 + 25) ∧
      ((opened.branch 0).engine = .idle) := by decide +kernel

theorem witness_RecoveryStepsFollow :
    let s := fun r : Recovery => lined (.recovering r) ⟨true, false⟩
    let fallen : Recovery := { recovery .stop 9 with clock := none }
    (((s (recovery .pulsing 7)).branch 0).engine = .recovering (recovery .pulsing 7) ∧
        (recovery .pulsing 7).step = .pulsing ∧ (recovery .pulsing 7).pulses + 1 < 9) ∧
      (((s (recovery .stop 9)).branch 0).engine = .recovering (recovery .stop 9) ∧ (recovery .stop 9).step = .stop ∧
        (recovery .stop 9).clock ≠ none ∧ (recovery .stop 9).step ≠ .pulsing) ∧
      (((s fallen).branch 0).engine = .recovering fallen ∧ fallen.step = .stop ∧ fallen.clock = none ∧
        ((s fallen).branch 0).lines.clockHigh = true) ∧
      (((lined (.recovering fallen) ⟨false, true⟩).branch 0).engine = .recovering fallen ∧
        ((lined (.recovering fallen) ⟨false, true⟩).branch 0).lines.clockHigh = false) ∧
      ({ s (recovery .stop 9) with now := 59 }.now < 35 + 25) ∧ (opened.branch 0).engine = .idle := by decide +kernel

theorem witness_FailedRecoveryDrainsTheQueue :
    let q := [{ job with post := some 7 }, { poll with slot := 1 }, { job with slot := 2 }]
    let s := fun r : Recovery => busy (.recovering r) q
    let closed : State := { (busy (.recovering (recovery .release 0)) []) with session := .closed }
    (s (recovery .release 0)).failsBy 0 (recovery .release 0) (.recoveryClockIntervalExpires 0) ∧
      (s (recovery .pulsing 8)).failsBy 0 (recovery .pulsing 8) (.recoveryPulseDone 0 false) ∧
      (s (recovery .idleWait 9)).failsBy 0 (recovery .idleWait 9) (.stuckLineIntervalExpires 0) ∧
      (∀ r, ((s r).branch 0).engine = .recovering r) ∧
      ((s (recovery .release 0)).session = .opened ∧ (s (recovery .release 0)).notices.length + 1 < 16 ∧
        ∀ j ∈ ((s (recovery .release 0)).branch 0).queue, j.onWires = false ∧ j.cancelTag = none ∧ j.route = some 0 ∧
          ((s (recovery .release 0)).route 0).waiting = none ∧
          ∀ i ∈ (s (recovery .release 0)).jobs, i.route = some 0 → i.branch = 0) ∧
      PoolLaw (s (recovery .release 0)) ∧
      (closed.failsBy 0 (recovery .release 0) (.recoveryClockIntervalExpires 0) ∧
        (closed.branch 0).engine = .recovering (recovery .release 0) ∧ closed.session ≠ .opened ∧
        (closed.branch 0).queue = []) :=
  ⟨.inl ⟨rfl, by decide, _, rfl, by decide +kernel⟩, .inr (.inl ⟨rfl, rfl, by decide⟩),
    .inr (.inr ⟨rfl, rfl, _, rfl, by decide +kernel⟩), fun _ => rfl, by decide +kernel, pool_intro (by decide +kernel),
    .inl ⟨rfl, by decide, _, rfl, by decide +kernel⟩, by decide +kernel⟩

/-! ### Witnesses: conducting a transfer -/

/-- The job, ACTIVE. -/
def live : Job := { job with state := .active }

/-- The job, ENDING for its deadline. -/
def ending : Job := { job with state := .ending .deadline }

theorem conducting_conducts (p : Phase) {j : Job} (h : j.slot = 0 ∧ j.branch = 0) (share : j.isHost = true) :
    Conducts (conducting p j) 0 ⟨0, p, some ⟨35, 25⟩⟩ j := by
  have hb : ∀ b : BranchId, ((conducting p j).branch b).queue = if b = 0 then [j] else [] := by
    intro b
    match b with
    | 0 => rfl
    | 1 => rfl
    | 2 => rfl
    | 3 => rfl
  have hj : (conducting p j).jobs = [j] := rfl
  refine ⟨⟨?_, by simp [hj], by simp [hj, share]⟩, rfl, by simp [hb], h.1⟩
  intro b i hi
  rw [hb] at hi
  split at hi
  · rename_i e
    rw [List.mem_singleton.1 hi, h.2, e]
  · simp at hi

theorem witness_PhaseEventsNeedTheirPhase :
    (opened.branch 0).engine = .idle ∧
      ((conducting .start live).branch 0).engine = .active ⟨0, .start, some ⟨35, 25⟩⟩ ∧
      ((conducting .restart live).branch 0).engine = .active ⟨0, .restart, some ⟨35, 25⟩⟩ ∧
      { conducting .start live with now := 59 }.now < 35 + 25 := by decide +kernel

theorem witness_PhasesFollow : ∀ p : Phase,
    Conducts (conducting p live) 0 ⟨0, p, some ⟨35, 25⟩⟩ live ∧
      Conducts (conducting p ending) 0 ⟨0, p, some ⟨35, 25⟩⟩ ending :=
  fun p => ⟨conducting_conducts p (by decide) rfl, conducting_conducts p (by decide) rfl⟩

/-- A late failure of route 0 that waits, with one job merged into it. -/
def waitingFailure : WaitingFailure := ⟨⟨9, 4, .deadline, 0⟩, ⟨1, some (5, 5)⟩⟩

/-- A state with a late failure of route 0 waiting. -/
def failureWaits (s : State) : State := s.setRoute 0 { s.route 0 with waiting := some waitingFailure }

theorem witness_StopEndsTheJobOrRetries :
    let at_ := fun p : Phase => conducting p live
    let s := failureWaits (at_ (.stopping (.firstRefused 60)))
    (∀ p : Phase, Conducts (at_ p) 0 ⟨0, p, some ⟨35, 25⟩⟩ live ∧
        Conducts (conducting p { live with attempts := 1 }) 0 ⟨0, p, some ⟨35, 25⟩⟩ { live with attempts := 1 } ∧
        Conducts (conducting p ending) 0 ⟨0, p, some ⟨35, 25⟩⟩ ending) ∧
      ((at_ .start).stopEnds live .completed .ok ∧ (at_ .start).stopEnds live .dataRefused .nackData ∧
        (at_ .start).stopEnds live .repeatedRefused .nackAddr ∧
        (at_ .start).stopEnds live (.byteBoundary .cancel) .cancelled ∧
        (at_ .start).stopEnds ending (.firstRefused 60) .deadline ∧
        (conducting .start { live with attempts := 1 }).stopEnds { live with attempts := 1 } (.firstRefused 60) .nackAddr) ∧
      Conducts s 0 ⟨0, .stopping (.firstRefused 60), some ⟨35, 25⟩⟩ live ∧
      ((at_ .start).session = .opened ∧ live.origin = .host 7 ∧ live.post = none ∧ live.state = .active ∧
        live.route = some 0 ∧ ((at_ .start).route 0).config = some device ∧ (s.route 0).config = some device ∧
        ((at_ .start).route 0).waiting = none ∧ (s.route 0).waiting = some waitingFailure ∧
        live.attempts < device.retries) :=
  ⟨fun p => ⟨conducting_conducts p (by decide) rfl, conducting_conducts p (by decide) rfl,
      conducting_conducts p (by decide) rfl⟩,
    ⟨.inl ⟨rfl, rfl⟩, .inr (.inl ⟨rfl, rfl⟩), .inr (.inr (.inl ⟨rfl, rfl⟩)), .inr (.inr (.inr (.inl ⟨_, rfl, rfl⟩))),
      .inr (.inr (.inr (.inr (.inl ⟨_, _, rfl, rfl, rfl⟩)))),
      .inr (.inr (.inr (.inr (.inr ⟨_, rfl, rfl, rfl, .inr ⟨0, device, rfl, by decide +kernel, by decide⟩⟩))))⟩,
    conducts_intro (pool_intro (by decide +kernel)) (by decide +kernel), by decide +kernel⟩

theorem witness_UnansweredJobsEndAtTheStop :
    let posted : Job := { live with post := some 65535 }
    let polled : Job := { poll with state := .active }
    let s := conducting (.stopping .completed) polled
    let also : State := failureWaits (busy (.active ⟨0, .stopping .dataRefused, none⟩) [posted, { job with slot := 1 }])
    let broadcast : Job := { live with op := .broadcast, route := none }
    (∀ why : StopReason,
        Conducts (conducting (.stopping why) posted) 0 ⟨0, .stopping why, some ⟨35, 25⟩⟩ posted) ∧
      Conducts s 0 ⟨0, .stopping .completed, some ⟨35, 25⟩⟩ polled ∧
      (s.stopEnds polled .completed .ok ∧ s.stopEnds posted .dataRefused .nackData) ∧
      (posted.origin = .host 7 ∧ posted.post = some 65535 ∧ posted.cancelTag = none ∧ polled.origin = .watch 0 ∧
        s.session = .opened ∧ polled.route = some 0 ∧ (s.route 0).waiting = none ∧
        ∀ i ∈ (conducting (.stopping .dataRefused) posted).jobs, i.route = some 0 → i.slot = posted.slot) ∧
      Conducts also 0 ⟨0, .stopping .dataRefused, none⟩ posted ∧
      Conducts { also with session := .closing } 0 ⟨0, .stopping .dataRefused, none⟩ posted ∧
      (also.session = .opened ∧ (also.route 0).waiting = some waitingFailure ∧
        ∀ i ∈ also.jobs, i.route = some 0 → i.slot ≠ posted.slot → i.onWires = false) ∧
      (Conducts (conducting .start broadcast) 0 ⟨0, .start, some ⟨35, 25⟩⟩ broadcast ∧ broadcast.route = none ∧
        broadcast.owedTag ≠ none ∧ live.owedTag ≠ none) :=
  ⟨fun _ => conducting_conducts _ (by decide) rfl,
    conducts_intro (pool_intro (by decide +kernel)) (by decide +kernel),
    ⟨.inl ⟨rfl, rfl⟩, .inr (.inl ⟨rfl, rfl⟩)⟩, by decide +kernel,
    conducts_intro (pool_intro (by decide +kernel)) (by decide +kernel),
    conducts_intro (pool_intro (by decide +kernel)) (by decide +kernel), by decide +kernel,
    conducting_conducts _ (by decide) rfl, by decide +kernel⟩

theorem witness_StretchTimeoutEndsTheJob :
    let closing : State := { conducting (.writing 0) live with session := .closing }
    Conducts (conducting (.writing 0) live) 0 ⟨0, .writing 0, some ⟨35, 25⟩⟩ live ∧
      Conducts closing 0 ⟨0, .writing 0, some ⟨35, 25⟩⟩ live ∧
      Conducts (conducting (.reading 1) live) 0 ⟨0, .reading 1, some ⟨35, 25⟩⟩ live ∧
      35 + 25 ≤ (conducting (.writing 0) live).now ∧ live.origin = .host 7 ∧ live.post = none ∧
      (conducting (.writing 0) live).session = .opened ∧ ((conducting (.writing 0) live).route 0).waiting = none :=
  ⟨conducting_conducts _ (by decide) rfl, conducts_intro (pool_intro (by decide +kernel)) (by decide +kernel),
    conducting_conducts _ (by decide) rfl, by decide +kernel⟩

theorem witness_ContradictionEndsTheAttempt :
    let multi := fun s : State => s.setBranch 0 { s.branch 0 with config := { (s.branch 0).config with multi := true } }
    let s := fun (p : Phase) (j : Job) => multi (conducting p j)
    let lost := { live with arbLosses := 7 }
    let acked := { live with addressAcked := true }
    let polled : Job := { poll with state := .active, addressAcked := true }
    Conducts (s .start live) 0 ⟨0, .start, some ⟨35, 25⟩⟩ live ∧
      Conducts (s .start lost) 0 ⟨0, .start, some ⟨35, 25⟩⟩ lost ∧
      Conducts (s .start ending) 0 ⟨0, .start, some ⟨35, 25⟩⟩ ending ∧
      Conducts (s (.writing 0) acked) 0 ⟨0, .writing 0, some ⟨35, 25⟩⟩ acked ∧
      Conducts (conducting .start live) 0 ⟨0, .start, some ⟨35, 25⟩⟩ live ∧
      Conducts (s (.writing 2) acked) 0 ⟨0, .writing 2, some ⟨35, 25⟩⟩ acked ∧
      ((s .start live).session = .opened ∧ ((s .start live).route 0).waiting = none ∧
        ((s .start live).branch 0).config.multi = true ∧ ((conducting .start live).branch 0).config.multi = false ∧
        acked.writeData[0]? = some 0xA0 ∧ acked.writeData[2]? = none ∧ live.state = .active ∧
        ending.state = .ending .deadline ∧ live.arbLosses + 1 < 8 ∧ 8 ≤ lost.arbLosses + 1) ∧
      Conducts (conducting (.reading 0) polled) 0 ⟨0, .reading 0, some ⟨35, 25⟩⟩ polled ∧
      ((conducting (.reading 0) polled).branch 0).config.multi = false ∧ polled.readCount ≤ 0 + 1 ∧
      (0x90 : Byte) = BitVec.ofNat 8 (2 * device.address.toNat + 0) :=
  ⟨conducts_intro (pool_intro (by decide +kernel)) (by decide +kernel),
    conducts_intro (pool_intro (by decide +kernel)) (by decide +kernel),
    conducts_intro (pool_intro (by decide +kernel)) (by decide +kernel),
    conducts_intro (pool_intro (by decide +kernel)) (by decide +kernel), conducting_conducts _ (by decide) rfl,
    conducts_intro (pool_intro (by decide +kernel)) (by decide +kernel), by decide +kernel,
    conducts_intro (pool_intro (by decide +kernel)) (by decide +kernel), by decide +kernel⟩

/-! ### Witnesses: posted writes, polls and notices -/

theorem witness_LateFailureHoldsTheRoute :
    let posted : Job := { job with post := some 4 }
    let quiet := busy (.waitFree none) [posted, { job with slot := 1, post := some 5 }, { poll with slot := 2 }]
    let wires := busy (.active ⟨1, .writing 0, none⟩) [{ live with slot := 1 }, posted]
    PoolLaw quiet ∧ PoolLaw wires ∧
      (quiet.session = .opened ∧ posted ∈ quiet.jobs ∧ posted ∈ wires.jobs ∧ posted.origin = .host 7 ∧
        posted.post = some 4 ∧ posted.route = some 0 ∧ posted.cancelTag = none ∧ posted.deadlineAt ≤ quiet.now ∧
        (quiet.route 0).waiting = none ∧ (∀ i ∈ quiet.jobs, i.onWires = false ∧ i.cancelTag = none) ∧
        ∃ i ∈ wires.jobs, i.slot ≠ posted.slot ∧ i.route = some 0 ∧ i.onWires = true) ∧
      ((⟨255, some (1, 3)⟩ : Discards).count ≤ 255 ∧ (quiet.jobs.filterMap (·.post)) = [4, 5]) :=
  ⟨pool_intro (by decide +kernel), pool_intro (by decide +kernel), by decide +kernel⟩

theorem witness_WaitingLateFailureIsSettled :
    let w : WaitingFailure := ⟨⟨7, 4, .deadline, 0⟩, ⟨255, some (5, 9)⟩⟩
    let s : State := opened.setRoute 0 { Route.reset with waiting := some w }
    (opened.route 0).waiting = none ∧ ((conducting .start live).jobs = [live] ∧ live.onWires = true) ∧
      ((s.route 0).waiting = some w ∧ (∀ j ∈ s.jobs, j.route ≠ some 0) ∧ (s.route 0).config = none ∧
        s.session = .opened ∧ { s with session := .closing }.session = .closing) ∧
      (((failureWaits (busy .idle [job])).route 0).waiting = some waitingFailure ∧
        ((failureWaits (busy .idle [job])).route 0).config = some device ∧
        ∀ j ∈ (failureWaits (busy .idle [job])).jobs, j.route = some 0 → j.onWires = false) := by decide +kernel

theorem witness_PollValueIsCompared :
    let s := withWatch fun w => { w with lastValue := some [0x00] }
    ((withWatch id).watch 0).config = some fan ∧ ((withWatch id).watch 0).lastValue = none ∧
      (s.watch 0).lastValue = some [0x00] ∧ s.session = .opened ∧ Status.nackAddr ≠ .ok ∧
      ([0x01] : List Byte)[0]? = some 0x01 := by decide +kernel

theorem witness_ChangeIsMergedDroppedOrEnqueued :
    let change : ChangeBody := ⟨0, 1, 0, none, [1], [1], 255, 255⟩
    let waiting : State := { opened with notices := [⟨1, 0, false, .change change⟩] }
    let full : State := { opened with notices := List.replicate 16 notice }
    State.reset.session ≠ .opened ∧ opened.session = .opened ∧
      (∃ n ∈ waiting.notices, n.body = .change change ∧ n.sealed = false ∧ change.watch = 0) ∧
      (16 ≤ full.notices.length ∧ ∀ n ∈ full.notices, n.body ≠ .change change) ∧ opened.notices.length < 16 := by
  decide +kernel

/-! ### Witnesses: the laws -/

/-- A state in OPEN with a job on the wires and a command waiting. -/
def running : State := { conducting .start live with pending := [.startPhaseDone 0] }

/-- The premises of the statements about every step, met together by a state that takes one. -/
theorem witness_laws : (AttnLaw running ∧ NoticeLaw running ∧ LinkLaw running ∧ UniqueDevices running ∧
    StreakLaw running ∧ WatchLaw running ∧ SessionLaw running ∧ RestartLaw running ∧ PoolLaw running ∧
    ReplyLaw running ∧ EngineLaw running) ∧ ∃ t, step running = .next t := by
  have routes : ∀ r : RouteId, (running.route r).config = if r = 0 then some device else none := by decide +kernel
  have watches : ∀ w : WatchId, (running.watch w).config = none := by decide +kernel
  have queues : ∀ b : BranchId, ∀ j ∈ (running.branch b).queue, b = 0 ∧ j = live := by decide +kernel
  refine ⟨⟨by simp [AttnLaw, running, conducting, busy, withRoute, opened, State.reset],
    ⟨by decide +kernel, by decide +kernel, by decide +kernel, by decide +kernel, by decide +kernel⟩,
    ⟨by decide +kernel, by decide +kernel, by decide +kernel, by decide +kernel, by decide +kernel⟩, ?_, ?_, ?_,
    ⟨by decide +kernel, by decide +kernel⟩,
    ⟨by decide +kernel, by decide +kernel, by decide +kernel, by decide +kernel⟩, pool_intro (by decide +kernel),
    by unfold ReplyLaw; decide +kernel, ?_⟩, _, rfl⟩
  · intro q r c d hqr hc hd
    rw [routes] at hc hd
    split at hc <;> split at hd <;> simp_all
  · unfold StreakLaw
    decide +kernel
  · intro w c hc
    simp [watches w] at hc
  · refine ⟨fun b j hj => ?_, fun b c hc => ?_⟩
    · obtain ⟨rfl, rfl⟩ := queues b j hj
      exact ⟨fun _ => ⟨_, rfl, rfl⟩, fun _ => rfl⟩
    · have only : ∀ k : BranchId, k = 0 ∨ (running.branch k).engine = .idle := by decide +kernel
      rcases only b with rfl | idle
      · exact ⟨live, by decide +kernel, by rw [(Engine.active.inj hc).symm]; rfl⟩
      · rw [idle] at hc
        cases hc

end Sys2Proof.Tests
end

section
/-! SUPPORT. The receiver (01): what the bytes held amount to, the bytes of a frame examined in order, and the bytes
that arrive one after another. -/

namespace Sys2Proof.Machine

/-! ### The link's own commands by their arms -/

theorem exec_fullReset (cause : ResetCause) (lspd : LinkSpeed) (lines : Vector Lines 4) (s : State) :
    exec (.fullReset cause lspd lines) s = execFullReset cause lspd lines s := rfl

theorem exec_byteArrives (c : LineChar) (s : State) : exec (.byteArrives c) s = .next (s.receive (delivered c)) := rfl

theorem exec_gapIntervalExpires (s : State) : exec .gapIntervalExpires s = execGapIntervalExpires s := rfl

theorem exec_transmitStart (s : State) : exec .transmitStart s = execTransmitStart s := rfl

theorem exec_frameTransmitted (s : State) : exec .frameTransmitted s = execFrameTransmitted s := rfl

theorem exec_restartEffects (s : State) : exec .restartEffects s = execRestartEffects s := rfl

/-! ### Reading the bytes held as a frame (R5, R6) -/

/-- A LENGTH outside 2 to 242 cannot begin a frame (R5). -/
theorem assemble_badLength {n : Byte} (bad : n.toNat < 2 ∨ 242 < n.toNat) (rest : List Byte) :
    assemble (n :: rest) = .badLength := by
  simp only [assemble, Config.minLength, Config.maxLength, bad, if_true]

/-- A frame whose bytes are not all in is in BODY or CHECK (R5, R6). -/
theorem assemble_unfinished {n : Byte} (range : 2 ≤ n.toNat ∧ n.toNat ≤ 242) {rest : List Byte}
    (short : rest.length < n.toNat + 2) :
    assemble (n :: rest) = .unfinished (if rest.length < n.toNat then .body else .check) := by
  have ok : ¬ (n.toNat < 2 ∨ 242 < n.toNat) := by omega
  simp only [assemble, Config.minLength, Config.maxLength, ok, short, if_true, if_false]
  split <;> rfl

/-- A frame whose bytes are all in is judged by its two check bytes, whatever follows them (R6, R8, R9). -/
theorem assemble_whole {n kind tag high low : Byte} {payload : List Byte} (len : n.toNat = payload.length + 2)
    (max : n.toNat ≤ 242) (tail : List Byte) :
    assemble (n :: kind :: tag :: payload ++ high :: low :: tail) =
      if [high, low] = checkBytes (n :: kind :: tag :: payload) then .good ⟨kind, tag, payload⟩ (payload.length + 5)
      else .mismatch := by
  have ok : ¬ 242 < payload.length + 2 := by omega
  have long : ¬ payload.length + (tail.length + 1 + 1) < payload.length := by omega
  simp [assemble, Config.minLength, Config.maxLength, len, ok, long]

/-- The bytes from a LENGTH byte on: none yet, a LENGTH out of range, part of a frame, or a whole frame and a tail. -/
inductive Reading : List Byte → Prop
  | empty : Reading []
  | badLength {n : Byte} (rest : List Byte) (bad : n.toNat < 2 ∨ 242 < n.toNat) : Reading (n :: rest)
  | unfinished {n : Byte} {rest : List Byte} (range : 2 ≤ n.toNat ∧ n.toNat ≤ 242)
      (short : rest.length < n.toNat + 2) : Reading (n :: rest)
  | whole {n : Byte} (kind tag : Byte) {payload : List Byte} (high low : Byte) (tail : List Byte)
      (len : n.toNat = payload.length + 2) (max : n.toNat ≤ 242) :
      Reading (n :: kind :: tag :: payload ++ high :: low :: tail)

theorem reading : ∀ bs : List Byte, Reading bs
  | [] => .empty
  | n :: rest => by
    by_cases bad : n.toNat < 2 ∨ 242 < n.toNat
    · exact .badLength rest bad
    by_cases short : rest.length < n.toNat + 2
    · exact .unfinished (by omega) short
    match rest with
    | [] | [_] => simp at short
    | kind :: tag :: more =>
      simp only [List.length_cons] at short
      have cut : more = more.take (n.toNat - 2) ++ more.drop (n.toNat - 2) := (List.take_append_drop ..).symm
      match h : more.drop (n.toNat - 2) with
      | [] | [_] => have := congrArg List.length h; simp at this; omega
      | high :: low :: tail =>
        rw [cut, h]
        exact .whole kind tag high low tail (by simp; omega) (by omega)

/-- Bytes that follow a frame already judged, or a LENGTH out of range, do not change what it was judged to be. -/
theorem assemble_append {bs : List Byte} (done : ∀ state, assemble bs ≠ .unfinished state) (tail : List Byte) :
    assemble (bs ++ tail) = assemble bs := by
  cases reading bs with
  | empty => exact absurd rfl (done .length)
  | badLength rest bad => rw [List.cons_append, assemble_badLength bad, assemble_badLength bad]
  | unfinished range short => exact absurd (assemble_unfinished range short) (done _)
  | whole kind tag high low more len max =>
    rw [assemble_whole len max]
    simpa using assemble_whole len max (more ++ tail)

/-- A good frame is as long as its LENGTH says, and the bytes hold all of it. -/
theorem assemble_good_size {n : Byte} {rest : List Byte} {f : Frame} {size : Nat}
    (h : assemble (n :: rest) = .good f size) : size = n.toNat + 3 ∧ n.toNat + 2 ≤ rest.length := by
  cases reading (n :: rest) with
  | badLength _ bad => rw [assemble_badLength bad] at h; cases h
  | unfinished range short => rw [assemble_unfinished range short] at h; cases h
  | whole kind tag high low tail len max =>
    have whole := (assemble_whole len max tail).symm.trans h
    split at whole
    · cases whole
      simp
      omega
    · cases whole

/-- Only the LENGTH can be what makes the bytes unfit to begin a frame (R5). -/
theorem assemble_badLength_iff {n : Byte} {rest : List Byte} :
    assemble (n :: rest) = .badLength ↔ n.toNat < 2 ∨ 242 < n.toNat := by
  refine ⟨fun h => ?_, fun bad => assemble_badLength bad rest⟩
  by_contra ok
  cases reading (n :: rest) with
  | badLength _ bad => exact ok bad
  | unfinished range short => rw [assemble_unfinished range short] at h; cases h
  | whole kind tag high low tail len max =>
    have whole := (assemble_whole len max tail).symm.trans h
    split at whole <;> cases whole

/-- The bytes of a frame are not all in just where fewer are held than its LENGTH asks for (R5, R6). -/
theorem assemble_unfinished_iff {n : Byte} {rest : List Byte} {state : Assembly} :
    assemble (n :: rest) = .unfinished state ↔ (2 ≤ n.toNat ∧ n.toNat ≤ 242) ∧ rest.length < n.toNat + 2 ∧
      state = if rest.length < n.toNat then .body else .check := by
  constructor
  · intro h
    cases reading (n :: rest) with
    | badLength _ bad => rw [assemble_badLength bad] at h; cases h
    | unfinished range short =>
      rw [assemble_unfinished range short] at h
      exact ⟨range, short, (Assembled.unfinished.inj h).symm⟩
    | whole kind tag high low tail len max =>
      have whole := (assemble_whole len max tail).symm.trans h
      split at whole <;> cases whole
  · rintro ⟨range, short, rfl⟩
    exact assemble_unfinished range short

/-- Bytes partway through a frame are those of an assembly state other than HUNT. -/
theorem assemble_ne_hunt {bs : List Byte} {state : Assembly} (h : assemble bs = .unfinished state) :
    state ≠ .hunt := by
  cases bs with
  | nil => cases h; decide
  | cons n rest =>
    obtain ⟨-, -, rfl⟩ := assemble_unfinished_iff.1 h
    split <;> decide

/-- A LENGTH out of range is found as the LENGTH comes in, and is no start byte (R5). -/
theorem assemble_badLength_last {bs : List Byte} {state : Assembly} {b : Byte}
    (before : assemble bs = .unfinished state) (after : assemble (bs ++ [b]) = .badLength) :
    bs = [] ∧ b ≠ Config.startByte := by
  cases bs with
  | nil =>
    refine ⟨rfl, ?_⟩
    rintro rfl
    have := assemble_badLength_iff.1 after
    simp [Config.startByte] at this
  | cons n rest =>
    have := assemble_badLength_iff.1 after
    obtain ⟨range, -⟩ := assemble_unfinished_iff.1 before
    omega

/-- A good frame is found as its last byte comes in (R6). -/
theorem assemble_good_last {bs : List Byte} {state : Assembly} {b : Byte} {f : Frame} {size : Nat}
    (before : assemble bs = .unfinished state) (after : assemble (bs ++ [b]) = .good f size) :
    size = (bs ++ [b]).length := by
  cases bs with
  | nil =>
    obtain ⟨-, held⟩ := assemble_good_size after
    simp at held
  | cons n rest =>
    obtain ⟨-, short, -⟩ := assemble_unfinished_iff.1 before
    obtain ⟨hsize, held⟩ := assemble_good_size after
    simp at held ⊢
    omega

/-! ### Examining bytes in order (R4, R8) -/

section
variable (s : State) {bs : List Byte}

theorem State.examine_other {b : Byte} (h : b ≠ Config.startByte) : s.examine 0 (b :: bs) = s.examine 0 bs := by
  rw [State.examine, if_neg h]

theorem State.examine_badLength (h : assemble bs = .badLength) :
    s.examine 0 (Config.startByte :: bs) = s.examine 0 bs := by
  rw [State.examine, if_pos rfl, h]

theorem State.examine_unfinished {state : Assembly} (h : assemble bs = .unfinished state) :
    s.examine 0 (Config.startByte :: bs) = s.holdFrame state bs := by
  rw [State.examine, if_pos rfl, h]

theorem State.examine_mismatch (h : assemble bs = .mismatch) :
    s.examine 0 (Config.startByte :: bs) = s.countCrcError.examine 0 bs := by
  rw [State.examine, if_pos rfl, h]

theorem State.examine_good {f : Frame} {size : Nat} (h : assemble bs = .good f size) :
    s.examine 0 (Config.startByte :: bs) = (s.disposeFrame f).examine size bs := by
  rw [State.examine, if_pos rfl, h]

end

section
variable (s : State) {f : Frame}

theorem State.disposeFrame_foreign (foreign : 0x40 ≤ f.kind.toNat) :
    s.disposeFrame f =
      { s with counters := { s.counters with foreignFrames := min (s.counters.foreignFrames + 1) 65535 } } :=
  if_pos foreign

theorem State.disposeFrame_overrun (request : ¬ 0x40 ≤ f.kind.toNat) (full : 4 ≤ s.rxQueue.length) :
    s.disposeFrame f = { s with counters := { s.counters with overruns := min (s.counters.overruns + 1) 65535 } } :=
  (if_neg request).trans (if_pos full)

theorem State.disposeFrame_queued (request : ¬ 0x40 ≤ f.kind.toNat) (room : ¬ 4 ≤ s.rxQueue.length) :
    s.disposeFrame f = { s with rxQueue := s.rxQueue ++ [f] } :=
  (if_neg request).trans (if_neg room)

end

/-- What becomes of a good frame does not depend on the receiver. -/
theorem State.disposeFrame_receiver (s : State) (r : Receiver) (f : Frame) :
    State.disposeFrame { s with receiver := r } f = { s.disposeFrame f with receiver := r } := by
  unfold State.disposeFrame
  split
  · rfl
  · split <;> rfl

/-- Examining sets the receiver, whatever it was before. -/
theorem State.examine_receiver (s : State) (r : Receiver) (skip : Nat) (bs : List Byte) :
    State.examine { s with receiver := r } skip bs = s.examine skip bs := by
  fun_induction State.examine s skip bs with
  | case1 => simp [State.examine, State.hunt]
  | case2 s skip b bs ih => rw [State.examine, ih]
  | case3 s bs h ih => rw [State.examine_badLength _ h, ih]
  | case4 s bs state h => rw [State.examine_unfinished _ h]; rfl
  | case5 s bs h ih => rw [State.examine_mismatch _ h]; exact ih
  | case6 s bs f size h ih => rw [State.examine_good _ h, State.disposeFrame_receiver]; exact ih
  | case7 s b bs h ih => rw [State.examine_other _ h, ih]

/-- Bytes that all belong to a frame already judged leave the receiver in HUNT. -/
theorem State.examine_skips (s : State) {bs : List Byte} {skip : Nat} (h : bs.length ≤ skip) :
    s.examine skip bs = s.hunt := by
  induction bs generalizing skip with
  | nil => simp [State.examine]
  | cons b bs ih =>
    obtain ⟨k, rfl⟩ : ∃ k, skip = k + 1 := ⟨skip - 1, by simp at h; omega⟩
    exact ih (by simpa using h)

/-- After bytes are examined the gap interval has not expired: if it runs, it runs from now (R7). -/
theorem State.examine_in_time (s : State) (skip : Nat) (bs : List Byte) :
    (s.examine skip bs).receiver.overdue (s.examine skip bs).now = false := by
  fun_induction State.examine s skip bs with
  | case1 => rfl
  | case4 s => simp [State.holdFrame, Receiver.overdue, Nat.add_assoc]
  | case2 _ _ _ _ ih | case3 _ _ _ ih | case5 _ _ _ ih | case6 _ _ _ _ _ ih | case7 _ _ _ _ ih => exact ih

/-! ### A byte partway through a frame (R5, R6, R8, R9) -/

section
variable {s : State} {b : Byte} (partway : s.receiver.assembly ≠ .hunt)
include partway

theorem State.takeByte_badLength (h : assemble (s.receiver.held ++ [b]) = .badLength) : s.takeByte b = s.hunt := by
  rw [State.takeByte_held partway, h]

theorem State.takeByte_unfinished {state : Assembly} (h : assemble (s.receiver.held ++ [b]) = .unfinished state) :
    s.takeByte b = s.holdFrame state (s.receiver.held ++ [b]) := by
  rw [State.takeByte_held partway, h]

theorem State.takeByte_mismatch (h : assemble (s.receiver.held ++ [b]) = .mismatch) :
    s.takeByte b = s.countCrcError.examine 0 (s.receiver.held ++ [b]) := by
  rw [State.takeByte_held partway, h]

theorem State.takeByte_good {f : Frame} {size : Nat} (h : assemble (s.receiver.held ++ [b]) = .good f size) :
    s.takeByte b = (s.disposeFrame f).hunt := by
  rw [State.takeByte_held partway, h]

end

/-- A receiver partway through a frame, taking one byte more, does what examining the bytes so far with that one from
HUNT does. -/
theorem State.holdFrame_takeByte (s : State) {bs : List Byte} {state : Assembly}
    (before : assemble bs = .unfinished state) (b : Byte) :
    (s.holdFrame state bs).takeByte b = s.examine 0 (Config.startByte :: (bs ++ [b])) := by
  have partway : (s.holdFrame state bs).receiver.assembly ≠ .hunt := assemble_ne_hunt before
  cases after : assemble (bs ++ [b]) with
  | badLength =>
    obtain ⟨rfl, notStart⟩ := assemble_badLength_last before after
    rw [State.takeByte_badLength partway after, s.examine_badLength after, List.nil_append, s.examine_other notStart]
    rfl
  | unfinished => rw [State.takeByte_unfinished partway after, s.examine_unfinished after]; rfl
  | mismatch =>
    rw [State.takeByte_mismatch partway after, s.examine_mismatch after]
    exact s.countCrcError.examine_receiver _ 0 _
  | good f size =>
    rw [State.takeByte_good partway after, s.examine_good after,
      State.examine_skips _ (assemble_good_last before after).ge, State.holdFrame, State.disposeFrame_receiver]
    rfl

/-- Bytes examined and then one more taken from the line are the same as all of them examined. -/
theorem State.examine_takeByte (s : State) {skip : Nat} {bs : List Byte} (b : Byte) (h : skip ≤ bs.length) :
    (s.examine skip bs).takeByte b = s.examine skip (bs ++ [b]) := by
  fun_induction State.examine s skip bs with
  | case1 s skip =>
    obtain rfl : skip = 0 := by simpa using h
    by_cases start : b = Config.startByte
    · subst start
      rw [List.nil_append, s.examine_unfinished rfl]
      simp [State.takeByte, State.hunt, Receiver.hunting, State.holdFrame]
    · rw [List.nil_append, s.examine_other start]
      simp [State.takeByte, State.hunt, Receiver.hunting, start, State.examine]
  | case2 s skip _ bs ih =>
    rw [List.cons_append, State.examine]
    exact ih (by simpa using h)
  | case3 s bs bad ih =>
    rw [List.cons_append, s.examine_badLength (by rw [assemble_append (by simp [bad]), bad])]
    exact ih (by simp)
  | case4 s bs state before => exact s.holdFrame_takeByte before b
  | case5 s bs mismatch ih =>
    rw [List.cons_append, s.examine_mismatch (by rw [assemble_append (by simp [mismatch]), mismatch])]
    exact ih (by simp)
  | case6 s bs f size good ih =>
    rw [List.cons_append, s.examine_good (by rw [assemble_append (by simp [good]), good])]
    cases bs with
    | nil => cases good
    | cons n rest =>
      obtain ⟨hs, hl⟩ := assemble_good_size good
      exact ih (by simp; omega)
  | case7 s c bs other ih =>
    rw [List.cons_append, s.examine_other other]
    exact ih (by simp)

/-- Bytes that arrive one after another, after bytes examined from HUNT, are examined with them. -/
theorem State.runCommands_examine (s : State) (bs more : List Byte) :
    runCommands (arrivals more) (s.examine 0 bs) = .next (s.examine 0 (bs ++ more)) := by
  induction more generalizing bs with
  | nil => rw [List.append_nil]; rfl
  | cons b more ih =>
    have taken : (s.examine 0 bs).receive b = s.examine 0 (bs ++ [b]) := by
      rw [State.receive_in_time (s.examine_in_time 0 bs), s.examine_takeByte b (Nat.zero_le _)]
    calc runCommands (arrivals (b :: more)) (s.examine 0 bs)
        = runCommands (arrivals more) ((s.examine 0 bs).receive b) := rfl
      _ = .next (s.examine 0 (bs ++ b :: more)) := by rw [taken, ih, List.append_assoc]; rfl

/-- A receiver in HUNT examines in order the bytes that arrive (R4 to R9). -/
theorem State.runCommands_arrivals {s : State} (hunting : s.receiver = Receiver.hunting) (bs : List Byte) :
    runCommands (arrivals bs) s = .next (s.examine 0 bs) := by
  have start : s.examine 0 [] = s := by rw [State.examine, State.hunt, ← hunting]
  simpa [start] using s.runCommands_examine [] bs

/-- The bytes of a frame on the line, read from the LENGTH byte on, are that frame (R2, R3). -/
theorem assemble_wire {f : Frame} (len : f.payload.length ≤ 240) :
    assemble (f.content ++ checkBytes f.content) = .good f (f.payload.length + 5) := by
  have length : (byte (f.payload.length + 2)).toNat = f.payload.length + 2 := byte_toNat (by omega)
  exact (assemble_whole length (by omega) []).trans (if_pos rfl)

theorem checkBytes_length (bs : List Byte) : (checkBytes bs).length = 2 := rfl

/-- The bytes of a frame, examined in order, hand it over and leave the receiver in HUNT
(R4 to R6, R9). -/
theorem State.examine_wire (s : State) {f : Frame} (len : f.payload.length ≤ 240) :
    s.examine 0 f.wire = (s.disposeFrame f).hunt := by
  rw [Frame.wire, List.cons_append, s.examine_good (assemble_wire len)]
  exact State.examine_skips _ (by simp [Frame.content, checkBytes_length])

/-- A frame judged is counted, or joins the receive queue, and the receiver is in HUNT (R9, R11). -/
theorem State.disposeFrame_hunt (s : State) (f : Frame) :
    (s.disposeFrame f).hunt =
      if 0x40 ≤ f.kind.toNat then
        { s with
          receiver := ⟨.hunt, [], none⟩
          counters := { s.counters with foreignFrames := min (s.counters.foreignFrames + 1) 65535 } }
      else if 4 ≤ s.rxQueue.length then
        { s with
          receiver := ⟨.hunt, [], none⟩
          counters := { s.counters with overruns := min (s.counters.overruns + 1) 65535 } }
      else { s with receiver := ⟨.hunt, [], none⟩, rxQueue := s.rxQueue ++ [f] } := by
  split
  next foreign => rw [s.disposeFrame_foreign foreign]; rfl
  next request =>
    split
    next full => rw [s.disposeFrame_overrun request full]; rfl
    next room => rw [s.disposeFrame_queued request room]; rfl

theorem Receiver.overdue_eq {r : Receiver} {since : Nat} (gap : r.gap = some since) (now : Nat) :
    r.overdue now = decide (since + 6 < now) := by
  rw [Receiver.overdue, gap]
  rfl

/-- A frame in progress whose last byte is no more than 6 ms old takes the byte that arrives (R7; log 3). -/
theorem exec_byteArrives_in_time {s : State} {state : Assembly} {held : List Byte} {since : Nat}
    (receiver : s.receiver = ⟨state, held, some since⟩) (time : s.now ≤ since + 6) (b : Byte) (stop : Bool) :
    exec (.byteArrives (.char b stop)) s = .next (s.takeByte b) := by
  have notOverdue : s.receiver.overdue s.now = false := by
    rw [Receiver.overdue_eq (since := since) (by rw [receiver])]
    simpa using time
  rw [exec_byteArrives, delivered, State.receive_in_time notOverdue]

end Sys2Proof.Machine
end

section
/-! SUPPORT. Full reset, the choice of the transmitter, and the restart effects (01, 02). -/

namespace Sys2Proof.Machine

/-! ### Reset -/

theorem reset_route (r : RouteId) : State.reset.route r = Route.reset := Vector.getElem_replicate _

theorem reset_branch (b : BranchId) : State.reset.branch b = Branch.reset Lines.released := Vector.getElem_replicate _

theorem reset_watch (w : WatchId) : State.reset.watch w = Watch.reset := Vector.getElem_replicate _

theorem reset_jobs : State.reset.jobs = [] := by
  refine List.eq_nil_iff_forall_not_mem.2 fun j hj => ?_
  obtain ⟨b, hb⟩ := State.mem_jobs.1 hj
  rw [reset_branch] at hb
  cases hb

theorem reset_owedTags : State.reset.owedTags = [] := by
  rw [State.owedTags, reset_jobs]
  rfl

/-! ### The transmitter (R13 to R15) -/

section
variable {s : State}

theorem State.choose_boot {o : BootOrigin} (boot : s.bootPending = some o) :
    s.choose = { s with
      bootPending := none
      powerOnFlag := if o = .fullReset then false else s.powerOnFlag
      transmitting := some (bootFrame o s.powerOnFlag s.linkSpeed).sent } := by
  rw [State.choose, boot]

theorem State.choose_reply {f : Frame} {rest : List Frame} (noBoot : s.bootPending = none)
    (replies : s.replies = f :: rest) : s.choose = { s with replies := rest, transmitting := some f.sent } := by
  rw [State.choose, noBoot, replies]

theorem State.choose_notice {n : Notice} {rest : List Notice} (noBoot : s.bootPending = none) (noReply : s.replies = [])
    (notices : s.notices = n :: rest) : s.choose = if s.maySendNotice then s.startNotice n rest else s := by
  rw [State.choose, noBoot, noReply, notices]

theorem State.choose_nothing (noBoot : s.bootPending = none) (noReply : s.replies = []) (noNotice : s.notices = []) :
    s.choose = s := by
  rw [State.choose, noBoot, noReply, noNotice]

theorem exec_transmitStart_idle (idle : s.transmitting = none) : exec .transmitStart s = .next s.choose := by
  rw [exec_transmitStart, execTransmitStart, idle]

end

/-- The boot announcement, byte by byte (R15, R175, R176). -/
theorem bootFrame_eq (o : BootOrigin) (powerOn : Bool) (speed : LinkSpeed) :
    bootFrame o powerOn speed = ⟨0x7F, 0, [match o with
      | .restartEffects => 2
      | .fullReset => if powerOn then 0 else 1,
      0x04, 0x16, 0x03, if speed = .baud115200 then 0 else 1]⟩ := by
  cases o <;> cases speed <;> rfl

/-- A notice started in OPEN takes one credit, and ATTN follows (R167, R169). -/
theorem State.startNotice_opened {s : State} (opened : s.session = .opened) (credit : 1 ≤ s.credits) (n : Notice)
    (rest : List Notice) :
    s.startNotice n rest = { s with
      notices := rest
      credits := s.credits - 1
      attnLow := decide (rest ≠ [] ∧ s.credits = 1)
      transmitting := some ⟨n.frame, n.frame.wire⟩ } := by
  have attn : (s.session == .opened && !rest.isEmpty && s.credits - 1 == 0) =
      decide (rest ≠ [] ∧ s.credits = 1) := by
    have last : (s.credits - 1 == 0) = decide (s.credits = 1) := by
      rw [Bool.eq_iff_iff]
      simp
      omega
    cases rest <;> simp [opened, last]
  rw [← attn]
  rfl

/-! ### The restart effects (R35, R42) -/

/-- An engine with an empty branch queue selects nothing (R66). -/
theorem State.selectIfIdle_empty {s : State} {b : BranchId} (empty : (s.branch b).queue = []) :
    s.selectIfIdle b = s := by
  unfold State.selectIfIdle
  rw [empty]
  split <;> rfl

theorem State.foldl_selectIfIdle_empty {s : State} (empty : ∀ b : BranchId, (s.branch b).queue = []) :
    ∀ l : List BranchId, l.foldl State.selectIfIdle s = s
  | [] => rfl
  | b :: l => by
    rw [List.foldl_cons, State.selectIfIdle_empty (empty b)]
    exact State.foldl_selectIfIdle_empty empty l

end Sys2Proof.Machine
end

section
/-! SUPPORT. What the requests and the events outside the link cannot touch: each keeps the rest of the state
(`State.rest`). -/

namespace Sys2Proof.Machine

/-! ### The rest under what the requests do -/

section
variable (s : State)

@[simp] theorem State.answer_rest (f : Frame) (payload : List Byte) : (s.answer f payload).rest = s.rest := rfl
@[simp] theorem State.refuse_rest (f : Frame) (st : Status) : (s.refuse f st).rest = s.rest := rfl
@[simp] theorem State.configureRoute_rest (r : RouteId) (c : RouteConfig) : (s.configureRoute r c).rest = s.rest := rfl
@[simp] theorem State.answerCancel_rest (f : Frame) (target : Byte) (st : Status) :
    (s.answerCancel f target st).rest = s.rest := rfl
@[simp] theorem State.deferCancel_rest (j : Job) (tag : Byte) : (s.deferCancel j tag).rest = s.rest := rfl

@[simp] theorem State.routeSet_rest (f : Frame) (form : RouteId × RouteConfig) :
    (s.routeSet f form).rest = s.rest := by
  unfold State.routeSet
  split <;> rfl

@[simp] theorem State.routeClear_rest (f : Frame) (r : RouteId) : (s.routeClear f r).rest = s.rest := by
  unfold State.routeClear
  split <;> rfl

@[simp] theorem State.holdRelease_rest (f : Frame) (r : RouteId) : (s.holdRelease f r).rest = s.rest := by
  unfold State.holdRelease
  split <;> rfl

@[simp] theorem State.resetPresence_rest (r : RouteId) : (s.resetPresence r).rest = s.rest := by
  unfold State.resetPresence
  simp only
  split <;> simp

@[simp] theorem State.presenceReset_rest (f : Frame) (r : RouteId) : (s.presenceReset f r).rest = s.rest := by
  unfold State.presenceReset
  split <;> simp

@[simp] theorem State.branchSet_rest (f : Frame) (form : BranchId × BranchConfig) :
    (s.branchSet f form).rest = s.rest := by
  unfold State.branchSet
  simp only
  split <;> rfl

@[simp] theorem State.branchReset_rest (f : Frame) (b : BranchId) : (s.branchReset f b).rest = s.rest := by
  unfold State.branchReset
  split <;> simp

@[simp] theorem State.acceptOwed_rest (tag : Byte) (x : XferForm) (c : RouteConfig) (slot : SlotId) :
    (s.acceptOwed tag x c slot).rest = s.rest := by
  simp [State.acceptOwed]

@[simp] theorem State.acceptPosted_rest (f : Frame) (x : XferForm) (c : RouteConfig) (slot : SlotId) :
    (s.acceptPosted f x c slot).rest = s.rest := by
  simp [State.acceptPosted]

@[simp] theorem State.xfer_rest (f : Frame) (x : XferForm) : (s.xfer f x).rest = s.rest := by
  unfold State.xfer
  split
  · simp
  · simp
  · simp
  · split <;> simp

@[simp] theorem State.broadcast_rest (f : Frame) (x : BroadcastForm) : (s.broadcast f x).rest = s.rest := by
  unfold State.broadcast
  split
  · simp
  · split <;> simp

@[simp] theorem State.cancel_rest (atBoundary : Bool) (f : Frame) (target : Byte) :
    (s.cancel atBoundary f target).rest = s.rest := by
  unfold State.cancel
  split
  · simp
  · split <;> simp

@[simp] theorem State.watchSet_rest (f : Frame) (form : WatchId × WatchConfig) :
    (s.watchSet f form).rest = s.rest := by
  unfold State.watchSet
  simp only
  split
  · simp
  · split <;> simp

@[simp] theorem State.watchClear_rest (f : Frame) (w : WatchId) : (s.watchClear f w).rest = s.rest := by
  unfold State.watchClear
  simp only
  split
  · simp
  · split <;> simp

/-! ### The rest under what the events do -/

@[simp] theorem State.deadlineExpires_rest (j : Job) (atBoundary : Bool) :
    (s.deadlineExpires j atBoundary).rest = s.rest := by
  unfold State.deadlineExpires
  split <;> simp

@[simp] theorem State.retryEnds_rest (j : Job) : (s.retryEnds j).rest = s.rest := by
  simp [State.retryEnds]

@[simp] theorem State.busBecomesFree_rest (b : BranchId) : (s.busBecomesFree b).rest = s.rest := by
  unfold State.busBecomesFree
  simp only
  split <;> simp

@[simp] theorem State.enterPhase_rest (b : BranchId) (c : Conduct) (p : Phase) :
    (s.enterPhase b c p).rest = s.rest := rfl
@[simp] theorem State.ackAddress_rest (j : Job) : (s.ackAddress j).rest = s.rest := rfl
@[simp] theorem State.appendRead_rest (j : Job) (received : Byte) : (s.appendRead j received).rest = s.rest := rfl

@[simp] theorem State.lossBeforeAck_rest (b : BranchId) (j : Job) : (s.lossBeforeAck b j).rest = s.rest := by
  unfold State.lossBeforeAck
  simp only
  split <;> simp

@[simp] theorem State.lossAfterAck_rest (b : BranchId) (j : Job) : (s.lossAfterAck b j).rest = s.rest := by
  simp [State.lossAfterAck]

@[simp] theorem State.busFault_rest (b : BranchId) (j : Job) : (s.busFault b j).rest = s.rest := by
  simp [State.busFault]

@[simp] theorem State.makePoll_rest (w : WatchId) (c : WatchConfig) (slot : SlotId) (rc : RouteConfig) :
    (s.makePoll w c slot rc).rest = s.rest := by
  simp [State.makePoll]

@[simp] theorem State.countMissed_rest (w : WatchId) : (s.countMissed w).rest = s.rest := rfl

@[simp] theorem State.countdownExpires_rest (w : WatchId) (c : WatchConfig) :
    (s.countdownExpires w c).rest = s.rest := by
  unfold State.countdownExpires
  simp only
  split <;> simp

@[simp] theorem State.selectForRoute_rest (r : RouteId) : (s.selectForRoute r).rest = s.rest := by
  unfold State.selectForRoute
  split <;> simp

end

/-- The answer is a next state with the rest of `s`. -/
def KeepsRest (s : State) (a : Answer) : Prop := ∃ t, a = .next t ∧ t.rest = s.rest

theorem KeepsRest.next {s t : State} (h : t.rest = s.rest) : KeepsRest s (.next t) := ⟨t, rfl, h⟩

/-- An event that acts under a condition, and otherwise changes nothing. -/
theorem KeepsRest.ite {s t : State} {p : Prop} [Decidable p] (h : t.rest = s.rest) :
    KeepsRest s (.next (if p then t else s)) := by
  split
  · exact .next h
  · exact .next rfl

section
variable (s : State) (b : BranchId)

theorem execJobDeadlineExpires_rest (slot : SlotId) (atBoundary : Bool) :
    KeepsRest s (execJobDeadlineExpires slot atBoundary s) := by
  unfold execJobDeadlineExpires
  split
  · exact .next rfl
  · exact .ite (by simp)

theorem execRetryWaitEnds_rest (slot : SlotId) : KeepsRest s (execRetryWaitEnds slot s) := by
  unfold execRetryWaitEnds
  split
  · exact .next rfl
  · split
    · exact .ite (by simp)
    all_goals exact .next rfl

theorem execBusFreeSet_rest : KeepsRest s (execBusFreeSet b s) := .ite (by simp)

theorem execStuckLineIntervalExpires_rest : KeepsRest s (execStuckLineIntervalExpires b s) := by
  unfold execStuckLineIntervalExpires
  split
  · split
    · exact .next rfl
    · exact .ite (by simp)
  · exact .ite (by simp)
  all_goals exact .next rfl

theorem execStartPhaseDone_rest : KeepsRest s (execStartPhaseDone b s) := by
  unfold execStartPhaseDone
  split
  · exact .next rfl
  · split <;> exact .next rfl

theorem execRestartPhaseDone_rest : KeepsRest s (execRestartPhaseDone b s) := by
  unfold execRestartPhaseDone
  split
  · exact .next rfl
  · split <;> exact .next rfl

theorem execAddressPhaseDone_rest (acknowledged : Bool) : KeepsRest s (execAddressPhaseDone b acknowledged s) := by
  unfold execAddressPhaseDone
  split
  · exact .next rfl
  · split
    · split <;> exact .next rfl
    · split <;> exact .next rfl
    all_goals exact .next rfl

theorem execWritingByteDone_rest (acknowledged : Bool) : KeepsRest s (execWritingByteDone b acknowledged s) := by
  unfold execWritingByteDone
  split
  · exact .next rfl
  · split
    · split <;> exact .next rfl
    all_goals exact .next rfl

theorem execReadingByteDone_rest (received : Byte) : KeepsRest s (execReadingByteDone b received s) := by
  unfold execReadingByteDone
  split
  · exact .next rfl
  · split <;> exact .next rfl

theorem execStoppingDone_rest : KeepsRest s (execStoppingDone b s) := by
  unfold execStoppingDone
  split
  · exact .next rfl
  · split
    · simp only
      split <;> exact .next (by simp)
    all_goals exact .next rfl

theorem execStretchIntervalExpires_rest (seen : StretchEnd) : KeepsRest s (execStretchIntervalExpires b seen s) := by
  unfold execStretchIntervalExpires
  split
  · exact .next rfl
  · split
    · exact .next rfl
    · split
      · exact .next (by simp)
      · exact .next rfl

theorem execContradiction_rest (received : Byte) : KeepsRest s (execContradiction b received s) := by
  unfold execContradiction
  split
  · exact .next rfl
  · split
    · refine .next ?_
      split
      · split <;> simp
      · simp
    · exact .next rfl

theorem execRecoveryClockIntervalExpires_rest : KeepsRest s (execRecoveryClockIntervalExpires b s) := by
  unfold execRecoveryClockIntervalExpires
  split
  · exact .next rfl
  · exact .ite (by simp)

theorem execRecoveryPulseDone_rest (dataHigh : Bool) : KeepsRest s (execRecoveryPulseDone b dataHigh s) := by
  unfold execRecoveryPulseDone
  split
  · exact .next rfl
  · split
    · simp only
      split
      · exact .next (by simp)
      · exact .next rfl
    · exact .next rfl

theorem execRecoveryStopDone_rest (dataHigh : Bool) : KeepsRest s (execRecoveryStopDone b dataHigh s) := by
  unfold execRecoveryStopDone
  split
  · exact .next rfl
  · split <;> exact .next rfl

theorem execWatchCountdownExpires_rest (w : WatchId) : KeepsRest s (execWatchCountdownExpires w s) := by
  unfold execWatchCountdownExpires
  split
  · exact .next rfl
  · exact .ite (by simp)

theorem execWaitingLateFailureCarriedOut_rest (r : RouteId) : KeepsRest s (execWaitingLateFailureCarriedOut r s) := by
  unfold execWaitingLateFailureCarriedOut
  refine .next ?_
  split <;> simp

theorem execBranchLineLevelChange_rest (line : BusLine) (high : Bool) :
    KeepsRest s (execBranchLineLevelChange b line high s) := by
  unfold execBranchLineLevelChange
  simp only
  refine .next ?_
  split <;> rfl

end

end Sys2Proof.Machine
end

section
/-! SUPPORT. What a command can do on the link's side, and the law of the receive queue and the link counters (R10,
R11). -/

namespace Sys2Proof.Machine

/-! ### What only the link changes -/

/-- The state with the fields blanked that the requests and the events of the session may change too: of what
`State.rest` keeps, the session, its records, the intake, the request being taken, and the credits. What is left is the
time, the link with its receive queue and counters, the announcement, the report of the RESTART reply, and the command
queue. -/
def State.linkSide (s : State) : State :=
  { s.rest with
    session := .closed
    taking := none
    pendingClose := none
    pendingRestart := none
    intakeStopped := false
    credits := 0 }

/-- Two states with the same link side agree on the link and on the command queue. -/
theorem State.linkSide_fields {s t : State} (h : t.linkSide = s.linkSide) :
    t.now = s.now ∧ t.linkSpeed = s.linkSpeed ∧ t.receiver = s.receiver ∧ t.rxQueue = s.rxQueue ∧
      t.counters = s.counters ∧ t.transmitting = s.transmitting ∧ t.bootPending = s.bootPending ∧
      t.powerOnFlag = s.powerOnFlag ∧ t.restartSent = s.restartSent ∧ t.pending = s.pending := by
  have k : ∀ {β : Type} (p : State → β), p t.linkSide = p s.linkSide := fun p => congrArg p h
  exact ⟨k State.now, k State.linkSpeed, k State.receiver, k State.rxQueue, k State.counters, k State.transmitting,
    k State.bootPending, k State.powerOnFlag, k State.restartSent, k State.pending⟩

theorem State.linkSide_of_rest {s t : State} (h : t.rest = s.rest) : t.linkSide = s.linkSide :=
  show t.rest.linkSide = s.rest.linkSide from congrArg State.linkSide h

section
variable (s : State)

@[simp] theorem State.endTake_linkSide : s.endTake.linkSide = s.linkSide := rfl
@[simp] theorem State.refuse_linkSide (f : Frame) (st : Status) : (s.refuse f st).linkSide = s.linkSide := rfl

theorem State.taken_linkSide (f : Frame) (rest : List Frame) :
    (s.taken f rest).linkSide = State.linkSide { s with rxQueue := rest } := rfl

@[simp] theorem closeRemoves_rest (j : Job) : (closeRemoves s j).rest = s.rest := by
  unfold closeRemoves
  split <;> simp

@[simp] theorem State.beginClose_linkSide (boundary : List BranchId) :
    (s.beginClose boundary).linkSide = s.linkSide := by
  unfold State.beginClose
  simp only
  rw [State.foldl_keeps State.linkSide _ fun s j => State.linkSide_of_rest (s.makeEnding_rest ..),
    State.foldl_keeps State.linkSide _ fun s j => State.linkSide_of_rest (closeRemoves_rest s j)]
  rfl

@[simp] theorem State.completeClose_linkSide : s.completeClose.linkSide = s.linkSide := by
  unfold State.completeClose
  simp only
  split <;> split <;> rfl

@[simp] theorem State.testClose_linkSide : s.testClose.linkSide = s.linkSide := by
  unfold State.testClose
  split <;> simp

@[simp] theorem State.close_linkSide (tag : Byte) (boundary : List BranchId) :
    (s.close tag boundary).linkSide = s.linkSide := by
  rw [State.close, State.testClose_linkSide, State.beginClose_linkSide]
  rfl

@[simp] theorem State.restartTaken_linkSide (tag : Byte) (boundary : List BranchId) :
    (s.restartTaken tag boundary).linkSide = s.linkSide := by
  unfold State.restartTaken
  simp only
  split
  · rw [State.testClose_linkSide, State.beginClose_linkSide]
    rfl
  · rfl

end

/-! ### What a request command can do -/

/-- A request command does nothing, or it takes the frame at the head and then refuses it or carries it out (R19,
R20). -/
theorem State.request_cases {α : Type} (s : State) (k : Kind) (form : List Byte → Option α)
    (act : State → Frame → α → State) :
    s.request k form act = s ∨ ∃ f rest, s.rxQueue = f :: rest ∧ s.intakeOpen = true ∧ f.kind = k.code ∧
      ((∃ st, (s.taken f rest).check k form f = .error st ∧
          s.request k form act = ((s.taken f rest).refuse f st).endTake) ∨
        ∃ a, (s.taken f rest).check k form f = .ok a ∧
          s.request k form act = (act (s.taken f rest) f a).endTake) := by
  cases head : s.rxQueue with
  | nil =>
    left
    rw [State.request, State.take_none (.inl head)]
  | cons f rest =>
    by_cases taken : (s.intakeOpen && f.kind == k.code) = true
    · have take : s.take (· == k.code) = some (f, s.taken f rest) := by
        simp only [State.take, head, taken, if_true]
        rfl
      obtain ⟨intake, kind⟩ : s.intakeOpen = true ∧ f.kind = k.code := by simpa using taken
      refine .inr ⟨f, rest, rfl, intake, kind, ?_⟩
      unfold State.request
      rw [take]
      cases check : (s.taken f rest).check k form f with
      | error st => exact .inl ⟨st, rfl, by simp only [check]⟩
      | ok a => exact .inr ⟨a, rfl, by simp only [check]⟩
    · left
      have take : s.take (· == k.code) = none := by simp only [State.take, head, taken]; rfl
      rw [State.request, take]

/-- What a command other than the link's own can do on the link's side: nothing, take the frame at the head of the
receive queue, or take it and clear the link counters (R11, R20). -/
inductive LinkChange (s t : State) : Prop
  | kept (h : t.linkSide = s.linkSide)
  | taken (f : Frame) (rest : List Frame) (head : s.rxQueue = f :: rest)
      (h : t.linkSide = State.linkSide { s with rxQueue := rest })
  | cleared (f : Frame) (rest : List Frame) (head : s.rxQueue = f :: rest)
      (h : t.linkSide = State.linkSide { s with rxQueue := rest, counters := LinkCounters.zero })

/-- A request whose action leaves the link's side alone takes the frame at most. -/
theorem State.request_linkChange {α : Type} (s : State) (k : Kind) (form : List Byte → Option α)
    {act : State → Frame → α → State} (keeps : ∀ t f a, (act t f a).linkSide = t.linkSide) :
    LinkChange s (s.request k form act) := by
  rcases s.request_cases k form act with h | ⟨f, rest, head, -, -, ⟨st, -, h⟩ | ⟨a, -, h⟩⟩
  · exact .kept (congrArg _ h)
  · exact .taken f rest head (by rw [h, State.endTake_linkSide, State.refuse_linkSide, State.taken_linkSide])
  · exact .taken f rest head (by rw [h, State.endTake_linkSide, keeps, State.taken_linkSide])

/-- STATUS takes the frame, and clears the counters where it is asked to (R11, R36). -/
theorem status_linkChange (s : State) : ∃ t, execStatus s = .next t ∧ LinkChange s t := by
  refine ⟨_, rfl, ?_⟩
  rcases s.request_cases .status readStatus _ with h | ⟨f, rest, head, -, -, ⟨st, -, h⟩ | ⟨clear, -, h⟩⟩
  · exact .kept (congrArg _ h)
  · exact .taken f rest head (by rw [h, State.endTake_linkSide, State.refuse_linkSide, State.taken_linkSide])
  · cases clear
    · exact .taken f rest head (by rw [h]; rfl)
    · exact .cleared f rest head (by rw [h]; rfl)

/-- A request of unknown kind is refused, or nothing is taken (R21). -/
theorem requestOfUnknownKind_linkChange (s : State) :
    ∃ t, execRequestOfUnknownKind s = .next t ∧ LinkChange s t := by
  unfold execRequestOfUnknownKind State.take
  cases head : s.rxQueue with
  | nil => exact ⟨s, rfl, .kept rfl⟩
  | cons f rest =>
    by_cases taken : (s.intakeOpen && !knownKind f.kind) = true
    · simp only [taken, if_true]
      exact ⟨_, rfl, .taken f rest head rfl⟩
    · simp only [taken]
      exact ⟨s, rfl, .kept rfl⟩

/-- An event that keeps the rest keeps the link's side. -/
theorem KeepsRest.linkChange {s : State} {a : Answer} (h : KeepsRest s a) : ∃ t, a = .next t ∧ LinkChange s t := by
  obtain ⟨t, next, rest⟩ := h
  exact ⟨t, next, .kept (State.linkSide_of_rest rest)⟩

/-- The commands whose events are the link's own (01, 02). -/
def ofTheLink : Instr → Bool
  | .fullReset _ _ _ | .byteArrives _ | .gapIntervalExpires => true
  | .transmitStart | .frameTransmitted | .restartEffects => true
  | _ => false

/-- Every command but the link's own answers a next state, and on the link's side it takes the head frame at most, with
the counters cleared by STATUS. -/
theorem exec_linkChange (c : Instr) (s : State) (other : ofTheLink c = false) :
    ∃ t, exec c s = .next t ∧ LinkChange s t := by
  have request {α : Type} (k : Kind) (form : List Byte → Option α) {act : State → Frame → α → State}
      (keeps : ∀ t f a, (act t f a).linkSide = t.linkSide) :
      ∃ t, (.next (s.request k form act) : Answer) = .next t ∧ LinkChange s t :=
    ⟨_, rfl, s.request_linkChange k form keeps⟩
  have requestRest {α : Type} (k : Kind) (form : List Byte → Option α) {act : State → Frame → α → State}
      (keeps : ∀ t f a, (act t f a).rest = t.rest) :
      ∃ t, (.next (s.request k form act) : Answer) = .next t ∧ LinkChange s t :=
    request k form fun t f a => State.linkSide_of_rest (keeps t f a)
  cases c with
  | fullReset | byteArrives | gapIntervalExpires | transmitStart | frameTransmitted | restartEffects => cases other
  | requestOfUnknownKind => exact requestOfUnknownKind_linkChange s
  | hello => exact requestRest .hello readEmpty fun t f _ => rfl
  | openSession => exact request .openSession readOpen fun t f credits => rfl
  | closeSession boundary => exact request .close readEmpty fun t f _ => t.close_linkSide f.tag boundary
  | closeProcedureCompletes =>
    refine ⟨_, rfl, .kept ?_⟩
    split
    · exact s.testClose_linkSide
    · rfl
  | restart boundary => exact request .restart readEmpty fun t f _ => t.restartTaken_linkSide f.tag boundary
  | status => exact status_linkChange s
  | credit => exact request .credit readCredit fun t f amount => rfl
  | routeSet => exact requestRest .routeSet readRouteSet State.routeSet_rest
  | routeGet => exact requestRest .routeGet readRoute fun t f r => rfl
  | routeClear => exact requestRest .routeClear readRoute State.routeClear_rest
  | holdRelease => exact requestRest .holdRelease readRoute State.holdRelease_rest
  | presenceReset => exact requestRest .presenceReset readRoute State.presenceReset_rest
  | branchSet => exact requestRest .branchSet readBranchSet State.branchSet_rest
  | branchGet => exact requestRest .branchGet readBranch fun t f b => rfl
  | branchReset => exact requestRest .branchReset readBranch State.branchReset_rest
  | xfer => exact requestRest .xfer readXfer State.xfer_rest
  | broadcast => exact requestRest .broadcast readBroadcast State.broadcast_rest
  | cancel atBoundary => exact requestRest .cancel readCancel (State.cancel_rest · atBoundary)
  | watchSet => exact requestRest .watchSet readWatchSet State.watchSet_rest
  | watchGet => exact requestRest .watchGet readWatch fun t f w => rfl
  | watchClear => exact requestRest .watchClear readWatch State.watchClear_rest
  | jobDeadlineExpires slot atBoundary => exact (execJobDeadlineExpires_rest s slot atBoundary).linkChange
  | retryWaitEnds slot => exact (execRetryWaitEnds_rest s slot).linkChange
  | busFreeSet b => exact (execBusFreeSet_rest s b).linkChange
  | stuckLineIntervalExpires b => exact (execStuckLineIntervalExpires_rest s b).linkChange
  | startPhaseDone b => exact (execStartPhaseDone_rest s b).linkChange
  | addressPhaseDone b acknowledged => exact (execAddressPhaseDone_rest s b acknowledged).linkChange
  | writingByteDone b acknowledged => exact (execWritingByteDone_rest s b acknowledged).linkChange
  | readingByteDone b received => exact (execReadingByteDone_rest s b received).linkChange
  | restartPhaseDone b => exact (execRestartPhaseDone_rest s b).linkChange
  | stoppingDone b => exact (execStoppingDone_rest s b).linkChange
  | stretchIntervalExpires b seen => exact (execStretchIntervalExpires_rest s b seen).linkChange
  | contradiction b received => exact (execContradiction_rest s b received).linkChange
  | recoveryClockIntervalExpires b => exact (execRecoveryClockIntervalExpires_rest s b).linkChange
  | recoveryPulseDone b dataHigh => exact (execRecoveryPulseDone_rest s b dataHigh).linkChange
  | recoveryStopDone b dataHigh => exact (execRecoveryStopDone_rest s b dataHigh).linkChange
  | watchCountdownExpires w => exact (execWatchCountdownExpires_rest s w).linkChange
  | waitingLateFailureCarriedOut r => exact (execWaitingLateFailureCarriedOut_rest s r).linkChange
  | branchLineLevelChange b line high => exact (execBranchLineLevelChange_rest s b line high).linkChange

/-! ### The law of the link (R10, R11) -/

/-- A counter that is bumped stays within its limit (R11). -/
theorem bump_le (limit n : Nat) : bump limit n ≤ limit := Nat.min_le_right ..

/-- The law speaks of the receive queue and the counters alone. -/
theorem LinkLaw.congr {s t : State} (law : LinkLaw s) (queue : t.rxQueue = s.rxQueue)
    (counters : t.counters = s.counters) : LinkLaw t := by
  constructor
  · rw [queue]; exact law.rxQueue
  all_goals rw [counters]
  exacts [law.crcErrors, law.gapErrors, law.overruns, law.foreignFrames]

theorem LinkLaw.cleared {s : State} (queue : s.rxQueue.length ≤ 4) (counters : s.counters = LinkCounters.zero) :
    LinkLaw s := by
  constructor
  · exact queue
  all_goals rw [counters]; exact Nat.zero_le _

theorem LinkLaw.of_linkChange {s t : State} (law : LinkLaw s) (h : LinkChange s t) : LinkLaw t := by
  have shorter {f : Frame} {rest : List Frame} (head : s.rxQueue = f :: rest) : rest.length ≤ 4 := by
    have := law.rxQueue
    rw [head, List.length_cons] at this
    omega
  cases h with
  | kept h =>
    obtain ⟨-, -, -, queue, counters, -⟩ := State.linkSide_fields h
    exact law.congr queue counters
  | taken f rest head h =>
    obtain ⟨-, -, -, queue, counters, -⟩ := State.linkSide_fields h
    have took : LinkLaw { s with rxQueue := rest } :=
      ⟨shorter head, law.crcErrors, law.gapErrors, law.overruns, law.foreignFrames⟩
    exact took.congr queue counters
  | cleared f rest head h =>
    obtain ⟨-, -, -, queue, counters, -⟩ := State.linkSide_fields h
    exact .cleared (queue ▸ shorter head) counters

section
variable {s : State} (law : LinkLaw s)
include law

theorem LinkLaw.countCrcError : LinkLaw s.countCrcError :=
  ⟨law.rxQueue, bump_le .., law.gapErrors, law.overruns, law.foreignFrames⟩

theorem LinkLaw.abandonFrame : LinkLaw s.abandonFrame :=
  ⟨law.rxQueue, law.crcErrors, bump_le .., law.overruns, law.foreignFrames⟩

/-- A frame joins the queue only where it finds fewer than 4 (R9, R10). -/
theorem LinkLaw.disposeFrame (f : Frame) : LinkLaw (s.disposeFrame f) := by
  by_cases foreign : 0x40 ≤ f.kind.toNat
  · rw [s.disposeFrame_foreign foreign]
    exact ⟨law.rxQueue, law.crcErrors, law.gapErrors, law.overruns, bump_le ..⟩
  by_cases full : 4 ≤ s.rxQueue.length
  · rw [s.disposeFrame_overrun foreign full]
    exact ⟨law.rxQueue, law.crcErrors, law.gapErrors, bump_le .., law.foreignFrames⟩
  · rw [s.disposeFrame_queued foreign full]
    exact ⟨by simp; omega, law.crcErrors, law.gapErrors, law.overruns, law.foreignFrames⟩

theorem LinkLaw.hunt : LinkLaw s.hunt := law.congr rfl rfl

theorem LinkLaw.holdFrame (state : Assembly) (held : List Byte) : LinkLaw (s.holdFrame state held) := law.congr rfl rfl

end

theorem LinkLaw.examine {s : State} (law : LinkLaw s) (skip : Nat) (bs : List Byte) : LinkLaw (s.examine skip bs) := by
  fun_induction State.examine s skip bs with
  | case1 => exact law.hunt
  | case4 s bs state => exact law.holdFrame state bs
  | case5 s bs _ ih => exact ih law.countCrcError
  | case6 s bs f size _ ih => exact ih (law.disposeFrame f)
  | case2 _ _ _ _ ih | case3 _ _ _ ih | case7 _ _ _ _ ih => exact ih law

theorem LinkLaw.takeByte {s : State} (law : LinkLaw s) (b : Byte) : LinkLaw (s.takeByte b) := by
  unfold State.takeByte
  split
  · split
    · exact law.holdFrame ..
    · exact law
  all_goals
    simp only
    split
    · exact law.hunt
    · exact law.holdFrame ..
    · exact law.countCrcError.examine ..
    · exact (law.disposeFrame _).hunt

theorem LinkLaw.receive {s : State} (law : LinkLaw s) (b : Byte) : LinkLaw (s.receive b) := by
  unfold State.receive
  split
  · exact law.abandonFrame.takeByte b
  · exact law.takeByte b

/-- The transmitter touches neither the receive queue nor the counters. -/
theorem LinkLaw.choose {s : State} (law : LinkLaw s) : LinkLaw s.choose := by
  unfold State.choose
  repeat' split
  all_goals exact law.congr rfl rfl

/-- The restart effects leave no frame waiting and the counters at 0 (R17). -/
theorem linkLaw_applyRestart (s : State) : LinkLaw s.applyRestart := by
  unfold State.applyRestart
  obtain ⟨-, -, -, queue, counters, -⟩ := State.rest_fields
    (State.foldl_keeps State.rest State.selectIfIdle State.selectIfIdle_rest (List.finRange 4) _)
  exact .cleared (by rw [queue]; exact Nat.zero_le _) counters

/-- Every command keeps the law of the link: the link's own by their arms, every other by what it can do on the link's
side. -/
theorem LinkLaw.exec {c : Instr} {s t : State} (law : LinkLaw s) (h : exec c s = .next t) : LinkLaw t := by
  by_cases other : ofTheLink c = false
  · obtain ⟨u, hu, change⟩ := exec_linkChange c s other
    cases hu.symm.trans h
    exact law.of_linkChange change
  cases c with
  | fullReset cause lspd lines =>
    rw [exec_fullReset] at h
    cases h
    exact .cleared (Nat.zero_le _) rfl
  | byteArrives c =>
    rw [exec_byteArrives] at h
    cases h
    exact law.receive _
  | gapIntervalExpires =>
    rw [exec_gapIntervalExpires, execGapIntervalExpires] at h
    split at h <;> cases h
    · exact law
    · split
      · exact law.abandonFrame
      · exact law
  | transmitStart =>
    rw [exec_transmitStart, execTransmitStart] at h
    split at h <;> cases h
    · exact law.choose
    · exact law
  | frameTransmitted =>
    rw [exec_frameTransmitted, execFrameTransmitted] at h
    split at h <;> cases h
    · exact law
    · exact law.congr rfl rfl
  | restartEffects =>
    rw [exec_restartEffects, execRestartEffects] at h
    split at h <;> cases h
    · exact linkLaw_applyRestart s
    · exact law
  | _ => exact absurd rfl other

end Sys2Proof.Machine
end

section
/-! The statements about the host link, settled. -/

namespace Sys2Proof.Machine

/-- Settles O55: a command keeps the law, and the passing of a ms leaves the link alone. -/
theorem everyStepKeepsTheLinkLaw : Obligations.EveryStepKeepsTheLinkLaw := by
  intro s t law h
  unfold step at h
  split at h
  next =>
    cases h
    exact law.congr rfl rfl
  next c rest queue =>
    have rested : LinkLaw { s with pending := rest } := law.congr rfl rfl
    exact rested.exec h

/-- Settles O5: the bytes that arrive are examined in order, and those of a frame are read as that frame. -/
theorem frameCrossesTheLink : Obligations.FrameCrossesTheLink := by
  intro f s len request hunting room
  have notForeign : ¬ 0x40 ≤ f.kind.toNat := by omega
  have notFull : ¬ 4 ≤ s.rxQueue.length := by omega
  rw [State.runCommands_arrivals hunting, s.examine_wire len, State.disposeFrame_hunt, if_neg notForeign,
    if_neg notFull, ← hunting]

/-- Settles O7: the last byte completes the bytes held, which are then read as the frame or examined again. -/
theorem judgedFrame : Obligations.JudgedFrame := by
  refine ⟨?_, ?_⟩
  · intro f last held g s len wire receiver time
    have bytes : f.content ++ checkBytes f.content = s.receiver.held ++ [last] := by
      simpa [receiver, Frame.wire, Config.startByte] using wire
    rw [exec_byteArrives_in_time receiver time,
      State.takeByte_good (by simp [receiver]) (bytes ▸ assemble_wire len), State.disposeFrame_hunt]
  · intro n last body high g s low max len receiver time wrong failed
    have held : s.receiver.held ++ [last] = n :: body ++ [high, last] := by simp [receiver]
    have read : assemble (s.receiver.held ++ [last]) = .mismatch := by
      rw [held]
      match body, len with
      | [], len | [_], len => simp at len; omega
      | kind :: tag :: payload, len => exact (assemble_whole (by simpa using len.symm) max []).trans (if_neg wrong)
    have rescanned : exec (.byteArrives (.char last true)) s =
        .next (failed.examine 0 (n :: body ++ [high, last])) := by
      rw [exec_byteArrives_in_time receiver time, State.takeByte_mismatch (by simp [receiver]) read, held]
      exact congrArg _ (s.countCrcError.examine_receiver Receiver.hunting 0 _).symm
    refine ⟨?_, fun noStart => ?_⟩
    · rw [rescanned, State.runCommands_arrivals rfl]
    · rw [rescanned, State.examine_passes _ _ noStart]
      rfl

/-- Settles O9: what the idle transmitter chooses by the first of its sources that has a frame, and the frames by their
bytes. -/
theorem transmitterChoosesInOrder : Obligations.TransmitterChoosesInOrder := by
  refine ⟨fun s x busy => ?_, fun s idle => ⟨fun o boot => ?_, fun f rest noBoot replies => ?_,
    fun n rest noBoot noReply notices opened credit => ?_, fun noBoot noReply nothing => ?_⟩,
    fun seq dropped sealed => ⟨fun x => ?_, fun r f n => rfl, fun r f n first last => rfl, fun r old new => rfl,
      fun r old new st => rfl, fun b event cause failed => ?_⟩, rfl, rfl, rfl, fun stuck c r => rfl⟩
  · rw [exec_transmitStart, execTransmitStart, busy]
  · rw [exec_transmitStart_idle idle, State.choose_boot boot, bootFrame_eq]
    cases o <;> cases s.powerOnFlag <;> rfl
  · rw [exec_transmitStart_idle idle, State.choose_reply noBoot replies]
    rfl
  · have may : s.maySendNotice = true := by simp [State.maySendNotice, opened, credit]
    rw [exec_transmitStart_idle idle, State.choose_notice noBoot noReply notices, if_pos may,
      State.startNotice_opened opened credit]
  · rw [exec_transmitStart_idle idle]
    cases notices : s.notices with
    | nil => rw [State.choose_nothing noBoot noReply notices]
    | cons n rest =>
      have mayNot : s.maySendNotice ≠ true := by
        rcases nothing with h | h | h <;> simp_all [State.maySendNotice]
      rw [State.choose_notice noBoot noReply notices, if_neg mayNot]
  · cases h : x.old <;> simp only [Notice.frame, NoticeBody.bytes, h] <;> rfl
  · cases event <;> rfl

/-- Settles O10: with every branch queue empty the selections of the restart effects choose nothing. -/
theorem restartEffectsFollowTheReply : Obligations.RestartEffectsFollowTheReply := by
  refine ⟨fun x s sending => ?_, fun f => ?_, fun s unsent => ?_, fun s sent empty => ?_⟩
  · rw [exec_frameTransmitted, execFrameTransmitted, sending]
  · have spelled : f.isRestartReply = (f.kind == 0x84 && f.payload == [0x00]) := rfl
    simp [spelled]
  · rw [exec_restartEffects, execRestartEffects, unsent]
    rfl
  · rw [exec_restartEffects, execRestartEffects, if_pos sent, State.applyRestart, State.foldl_selectIfIdle_empty]
    · refine ⟨_, rfl, rfl, fun b => Vector.getElem_replicate _, fun r => mapTable_getElem ..,
        fun b => mapTable_getElem .., fun w => mapTable_getElem ..⟩
    · intro b
      exact (congrArg Branch.queue (mapTable_getElem ..)).trans (empty b)

/-- Settles O4: the tables are filled with reset records, and FULL_RESET writes the values of reset. -/
theorem fullResetValues : Obligations.FullResetValues := by
  refine ⟨⟨rfl, rfl, rfl, rfl, rfl, rfl, rfl, rfl, rfl, rfl, fun b => Vector.getElem_replicate _, rfl, rfl, rfl,
    reset_route, fun b => ?_, reset_watch, rfl, rfl, rfl, rfl, rfl⟩, fun cause lspd lines s => ?_⟩
  · rw [reset_branch]
    exact ⟨rfl, rfl, rfl, rfl, rfl, rfl, rfl⟩
  · refine ⟨_, rfl, rfl, ?_, ?_, fun b => mapTable_getElem ..⟩
    · rintro rfl
      rfl
    · rintro rfl
      rfl

/-- Settles O6: a byte in HUNT by whether it is a start byte, a LENGTH by whether the bytes held may then begin
a frame. -/
theorem huntAndLengthBytes : Obligations.HuntAndLengthBytes := by
  refine ⟨fun b stop s => ⟨?_, ?_, ?_, ?_⟩, fun s => rfl, ?_⟩
  · intro hunting start
    rw [exec_byteArrives, delivered, State.receive_hunting hunting, start]
    rfl
  · intro hunting other
    rw [exec_byteArrives, delivered, State.receive_hunting hunting]
    exact congrArg _ (if_neg other)
  · intro g receiver time low high
    have read : assemble (s.receiver.held ++ [b]) = .unfinished .body := by
      rw [receiver, List.nil_append, assemble_unfinished_iff]
      exact ⟨⟨low, high⟩, by simp, (if_pos (by simp; omega)).symm⟩
    rw [exec_byteArrives_in_time receiver time, State.takeByte_unfinished (by simp [receiver]) read]
    simp [State.holdFrame, receiver]
  · intro g receiver time bad
    have read : assemble (s.receiver.held ++ [b]) = .badLength := by
      simpa [receiver] using assemble_badLength bad []
    rw [exec_byteArrives_in_time receiver time, State.takeByte_badLength (by simp [receiver]) read]
    rfl
  · intro c g s gap late
    have overdue : s.receiver.overdue s.now = true := by
      rw [Receiver.overdue_eq gap]
      exact decide_eq_true late
    rw [exec_byteArrives, State.receive_overdue overdue]
    rfl

/-- Settles O8, by whether the gap interval runs and how long it has. -/
theorem gapExpiryAbandonsTheFrame : Obligations.GapExpiryAbandonsTheFrame := by
  intro s
  rw [exec_gapIntervalExpires]
  unfold execGapIntervalExpires Config.gapMs
  refine ⟨fun since gap late => ?_, fun since gap early => ?_, fun gap => ?_⟩
  · simp only [gap, late, if_true]
    rfl
  · simp only [gap, Nat.not_lt.2 early, if_false]
  · simp only [gap]

/-- Settles O52: at reset the queues, the pool and the tables are empty and the counts are 0. -/
theorem lawsHoldAtReset : Obligations.LawsHoldAtReset := by
  have noRoute : ∀ r : RouteId, (State.reset.route r).config = none := fun r => by rw [reset_route]; rfl
  have noWatch : ∀ w : WatchId, (State.reset.watch w).config = none := fun w => by rw [reset_watch]; rfl
  have noJob : ∀ b : BranchId, (State.reset.branch b).queue = [] := fun b => by rw [reset_branch]; rfl
  refine ⟨?attn, ?notices, ?link, ?devices, ?streaks, ?watches, ?session, ?restart, ?pool, ?replies, ?engines⟩
  case attn => simp [AttnLaw, State.reset]
  case notices => constructor <;> simp [State.reset]
  case link => constructor <;> simp [State.reset, LinkCounters.zero]
  case devices =>
    intro q r c d _ hc
    rw [noRoute] at hc
    cases hc
  case streaks =>
    intro r
    rw [reset_route]
    simp [Route.reset]
  case watches =>
    intro w c hc
    rw [noWatch] at hc
    cases hc
  case session => exact ⟨fun _ w => by rw [reset_watch]; rfl, fun _ => reset_jobs⟩
  case restart => constructor <;> simp [State.restartAnswers, State.sendingRestartReply, State.reset]
  case pool => exact ⟨fun b j hj => by simp [noJob] at hj, by simp [reset_jobs], by simp [reset_jobs]⟩
  case replies => rw [ReplyLaw, reset_owedTags]; decide
  case engines =>
    refine ⟨fun b j hj => by simp [noJob] at hj, fun b c hc => ?_⟩
    rw [reset_branch] at hc
    cases hc

end Sys2Proof.Machine
end

section
/-! SUPPORT. The pool queue by queue, what a job keeps while it is in the pool, and the number of replies waiting and
owed (R19, R24). -/

namespace Sys2Proof.Machine

/-! ### The pool queue by queue -/

theorem State.branches_toList (s : State) : s.branches.toList = (List.finRange 4).map s.branch := by
  apply List.ext_getElem <;> simp [State.branch]

theorem State.pendingResets_toList (s : State) : s.pendingResets.toList = (List.finRange 4).map s.pendingReset := by
  apply List.ext_getElem <;> simp [State.pendingReset]

/-- The pool is the queue of branch 0, then that of branch 1, and so on (R30, R64). -/
theorem State.jobs_eq (s : State) : s.jobs = (List.finRange 4).flatMap fun b => (s.branch b).queue := by
  rw [State.jobs, s.branches_toList, List.flatMap_map]

theorem State.jobs_eq_nil {s : State} : s.jobs = [] ↔ ∀ b : BranchId, (s.branch b).queue = [] := by
  simp [State.jobs_eq, List.flatMap_eq_nil_iff]

/-- States that agree on every branch have the same jobs. -/
theorem State.jobs_congr {s t : State} (h : ∀ b, (t.branch b).queue = (s.branch b).queue) : t.jobs = s.jobs := by
  simp only [State.jobs_eq, h]

/-! ### What a job keeps -/

/-- The job with its progress and its state blanked. What is left never changes while the job is in the pool, but for the
TAG of a CANCEL deferred on it. -/
def Job.identity (j : Job) : Job :=
  { j with
    attempts := 0
    arbLosses := 0
    state := .queued
    ackedWrites := 0
    readData := []
    addressAcked := false }

/-- The queue of a branch, each job by its identity. -/
def State.identities (s : State) (b : BranchId) : List Job := (s.branch b).queue.map Job.identity

/-- The job stands in the queue of its branch, whatever its progress. -/
def State.Holds (s : State) (j : Job) : Prop := j.identity ∈ s.identities j.branch

theorem PoolLaw.holds {s : State} (law : PoolLaw s) {j : Job} (h : j ∈ s.jobs) : s.Holds j :=
  List.mem_map_of_mem (law.mem_queue h)

theorem Conducts.holds {s : State} {b : BranchId} {c : Conduct} {j : Job} (h : Conducts s b c j) : s.Holds j :=
  h.pool.holds (State.mem_jobs.2 ⟨b, h.member⟩)

/-- The law of the pool speaks of identities alone, and every queue may lose jobs (R58, R64). -/
theorem PoolLaw.of_identities {s t : State} (law : PoolLaw s)
    (h : ∀ b, (t.identities b).Sublist (s.identities b)) : PoolLaw t := by
  have all : (t.jobs.map Job.identity).Sublist (s.jobs.map Job.identity) := by
    simp only [State.jobs_eq, List.map_flatMap]
    exact List.Sublist.flatMap_right _ fun b _ => h b
  refine ⟨fun b j hj => ?_, ?_, ?_⟩
  · obtain ⟨i, hi, e⟩ := List.mem_map.1 ((h b).subset (List.mem_map_of_mem hj))
    rw [← law.placed b i hi]
    exact (congrArg Job.branch e).symm
  · have e : ∀ u : State, u.jobs.map (·.slot) = (u.jobs.map Job.identity).map (·.slot) := fun u => by
      rw [List.map_map]; rfl
    rw [e]
    exact (all.map _).nodup (e s ▸ law.slots)
  · have e : ∀ u : State, u.jobs.countP Job.isHost = (u.jobs.map Job.identity).countP Job.isHost := fun u => by
      rw [List.countP_map]; rfl
    rw [e]
    exact (all.countP_le).trans (e s ▸ law.share)

end Sys2Proof.Machine
end

section
/-! SUPPORT. What the jobs of a queue owe, and the operations that leave the pool and the replies alone (R19, R24). -/

namespace Sys2Proof.Machine

/-! ### Replies waiting and owed (R19, R24) -/

/-- How many replies a job owes: its own, and a deferred CANCEL's (R24). -/
def Job.debts (j : Job) : Nat := j.owedTag.toList.length + j.cancelTag.toList.length

/-- How many replies the jobs of a queue owe. -/
def queueDebts (q : List Job) : Nat := (q.map Job.debts).sum

/-- How many replies wait or are owed (R19). -/
def State.load (s : State) : Nat := s.replies.length + s.owedTags.length

theorem State.load_eq (s : State) : s.load = s.replies.length + ((∑ b : BranchId, queueDebts (s.branch b).queue) +
    s.pendingClose.toList.length + s.pendingRestart.toList.length +
    ∑ b : BranchId, (s.pendingReset b).toList.length) := by
  have sums : ∀ f : BranchId → Nat, ((List.finRange 4).map f).sum = ∑ b : BranchId, f b := fun f =>
    (Fin.sum_univ_def f).symm
  simp only [State.load, State.owedTags, State.jobs_eq, State.pendingResets_toList, List.length_append,
    List.length_flatMap, List.flatMap_assoc, List.flatMap_map, sums]
  rfl

/-- The debts of the jobs that a test picks out, and of those it leaves. -/
theorem queueDebts_filter (p : Job → Bool) (q : List Job) :
    queueDebts (q.filter p) + queueDebts (q.filter fun j => !p j) = queueDebts q := by
  induction q with
  | nil => rfl
  | cons j q ih =>
    simp only [queueDebts] at *
    cases h : p j <;> simp [h] <;> omega

theorem debts_le_queueDebts {q : List Job} {j : Job} (h : j ∈ q) : j.debts ≤ queueDebts q :=
  List.le_sum_of_mem (List.mem_map_of_mem h)

theorem queueDebts_identity (q : List Job) : queueDebts (q.map Job.identity) = queueDebts q := by
  rw [queueDebts, List.map_map]
  rfl

/-- A sum over a table of which one entry changes. -/
theorem sum_change {n : Nat} (i : Fin n) {f g : Fin n → Nat} (h : ∀ k, k ≠ i → g k = f k) :
    ∑ k, g k + f i = ∑ k, f k + g i := by
  have others : ∑ k ∈ Finset.univ.erase i, g k = ∑ k ∈ Finset.univ.erase i, f k :=
    Finset.sum_congr rfl fun k hk => h k (Finset.ne_of_mem_erase hk)
  rw [← Finset.add_sum_erase _ g (Finset.mem_univ i), ← Finset.add_sum_erase _ f (Finset.mem_univ i), others]
  omega

/-! ### What leaves the pool and its debts alone -/

/-- No job joins or leaves the pool, no reply is made or comes to be owed, no watch is armed or disarmed, and the rest of
the state stays. -/
structure KeepsPool (s t : State) : Prop where
  rest : t.rest = s.rest
  armed : ∀ w, (t.watch w).armed = (s.watch w).armed
  queues : ∀ b, t.identities b = s.identities b
  replies : t.replies = s.replies
  resets : t.pendingResets = s.pendingResets

theorem KeepsPool.refl (s : State) : KeepsPool s s := ⟨rfl, fun _ => rfl, fun _ => rfl, rfl, rfl⟩

theorem KeepsPool.trans {s t u : State} (h : KeepsPool s t) (k : KeepsPool t u) : KeepsPool s u :=
  ⟨k.rest.trans h.rest, fun w => (k.armed w).trans (h.armed w), fun b => (k.queues b).trans (h.queues b),
    k.replies.trans h.replies, k.resets.trans h.resets⟩

/-- A fold of an operation that leaves the pool alone does so too. -/
theorem KeepsPool.foldl {α : Type} {f : State → α → State} (h : ∀ s a, KeepsPool s (f s a)) :
    ∀ (l : List α) (s : State), KeepsPool s (l.foldl f s)
  | [], s => .refl s
  | a :: l, s => (h s a).trans (KeepsPool.foldl h l (f s a))

/-- An operation that leaves the branches, the watches and the replies alone. -/
theorem KeepsPool.of_tables {s t : State} (rest : t.rest = s.rest) (watches : t.watches = s.watches)
    (branches : t.branches = s.branches) (replies : t.replies = s.replies)
    (resets : t.pendingResets = s.pendingResets) : KeepsPool s t :=
  ⟨rest, fun w => by rw [State.watch, watches]; rfl, fun b => by rw [State.identities, State.branch, branches]; rfl,
    replies, resets⟩

theorem KeepsPool.load {s t : State} (h : KeepsPool s t) : t.load = s.load := by
  obtain ⟨-, -, -, -, -, -, -, -, -, -, close, restart, -⟩ := State.rest_fields h.rest
  have debts : ∀ b, queueDebts (t.branch b).queue = queueDebts (s.branch b).queue := fun b => by
    rw [← queueDebts_identity, ← queueDebts_identity (s.branch b).queue]
    exact congrArg _ (h.queues b)
  simp only [State.load_eq, debts, close, restart, h.replies, State.pendingReset, h.resets]

section
variable (s : State)

theorem State.setRoute_keepsPool (r : RouteId) (v : Route) : KeepsPool s (s.setRoute r v) :=
  ⟨rfl, fun _ => rfl, fun _ => rfl, rfl, rfl⟩

theorem State.setBranch_keepsPool (b : BranchId) {v : Branch}
    (h : v.queue.map Job.identity = (s.branch b).queue.map Job.identity) : KeepsPool s (s.setBranch b v) := by
  refine ⟨rfl, fun _ => rfl, fun k => ?_, rfl, rfl⟩
  rw [State.identities, State.branch_setBranch]
  split
  · next e => exact e ▸ h
  · rfl

theorem State.setWatch_keepsPool (w : WatchId) {v : Watch} (h : v.armed = (s.watch w).armed) :
    KeepsPool s (s.setWatch w v) := by
  refine ⟨rfl, fun k => ?_, fun _ => rfl, rfl, rfl⟩
  rw [State.watch_setWatch]
  split
  · next e => exact e ▸ h
  · rfl

theorem State.setEngine_keepsPool (b : BranchId) (e : Engine) : KeepsPool s (s.setEngine b e) :=
  s.setBranch_keepsPool b rfl

/-- A change of a job's record that keeps the identity of every job. -/
theorem State.updateJob_keepsPool (j : Job) {f : Job → Job} (h : ∀ i, (f i).identity = i.identity) :
    KeepsPool s (s.updateJob j f) := by
  refine s.setBranch_keepsPool j.branch ?_
  rw [List.map_map]
  refine List.map_congr_left fun i _ => ?_
  rw [Function.comp]
  split
  · exact h i
  · rfl

theorem State.offer_keepsPool (x : NoticeBody) : KeepsPool s (s.offer x) :=
  .of_tables (by simp) (by simp) (by simp) (by simp) (by simp)

theorem State.changePresence_keepsPool (r : RouteId) (c : Option Status) (p : Presence) :
    KeepsPool s (s.changePresence r c p) := by
  unfold State.changePresence
  simp only
  split
  · exact (s.setRoute_keepsPool r _).trans (State.offer_keepsPool _ _)
  · exact s.setRoute_keepsPool r _

theorem State.presenceOutcome_keepsPool (r : RouteId) (st : Status) (acked : Bool) :
    KeepsPool s (s.presenceOutcome r st acked) := by
  unfold State.presenceOutcome
  simp only
  split
  · exact s.setRoute_keepsPool r _
  · exact (s.setRoute_keepsPool r _).trans (.foldl (fun s p => s.changePresence_keepsPool r (some st) p) _ _)

theorem State.clearMissed_keepsPool (w : WatchId) : KeepsPool s (s.clearMissed w) := s.setWatch_keepsPool w rfl

theorem State.countMissed_keepsPool (w : WatchId) : KeepsPool s (s.countMissed w) := s.setWatch_keepsPool w rfl

theorem State.offerChange_keepsPool (c : ChangeBody) : KeepsPool s (s.offerChange c) := by
  unfold State.offerChange
  split
  · split
    · refine .trans ?_ (State.clearMissed_keepsPool _ c.watch)
      exact .of_tables rfl rfl rfl rfl rfl
    · split
      · exact .of_tables rfl rfl rfl rfl rfl
      · refine .trans ?_ (State.clearMissed_keepsPool _ c.watch)
        exact .of_tables rfl rfl rfl rfl rfl
  · exact .refl s

theorem State.clearPollOut_keepsPool (w : WatchId) : KeepsPool s (s.clearPollOut w) := s.setWatch_keepsPool w rfl

theorem State.comparePoll_keepsPool (w : WatchId) (c : WatchConfig) (value : List Byte) :
    KeepsPool s (s.comparePoll w c value) := by
  have stored : KeepsPool s (s.setWatch w { s.watch w with lastValue := some value }) := s.setWatch_keepsPool w rfl
  unfold State.comparePoll
  simp only
  split
  · split
    · exact stored.trans (State.offerChange_keepsPool _ _)
    · exact stored
  · split
    · exact stored.trans (State.offerChange_keepsPool _ _)
    · exact stored

theorem State.pollEnds_keepsPool (w : WatchId) (st : Status) (value : List Byte) :
    KeepsPool s (s.pollEnds w st value) := by
  unfold State.pollEnds
  simp only
  split
  · exact s.clearPollOut_keepsPool w
  · split
    · exact (s.clearPollOut_keepsPool w).trans (State.comparePoll_keepsPool ..)
    · exact s.clearPollOut_keepsPool w

theorem State.watchTakes_keepsPool (j : Job) (st : Status) : KeepsPool s (s.watchTakes j st) := by
  unfold State.watchTakes
  split
  · exact .refl s
  · exact s.pollEnds_keepsPool ..

theorem State.countCancelled_keepsPool : KeepsPool s s.countCancelled := .of_tables rfl rfl rfl rfl rfl

theorem State.countDiscards_keepsPool (n : Nat) : KeepsPool s (s.countDiscards n) := .of_tables rfl rfl rfl rfl rfl

theorem State.countCloseEnd_keepsPool (j : Job) (st : Status) : KeepsPool s (s.countCloseEnd j st) := by
  unfold State.countCloseEnd
  split
  · exact s.countCancelled_keepsPool
  · exact .refl s

/-! ### The engines -/

theorem State.enterWaitFree_keepsPool (b : BranchId) : KeepsPool s (s.enterWaitFree b) := s.setEngine_keepsPool b _

theorem State.enterRecovery_keepsPool (b : BranchId) (c : RecoveryCause) : KeepsPool s (s.enterRecovery b c) := by
  obtain ⟨v, e, queue, -⟩ := s.enterRecovery_only b c
  rw [e]
  exact s.setBranch_keepsPool b (by rw [queue])

theorem State.startJob_keepsPool (b : BranchId) (j : Job) : KeepsPool s (s.startJob b j) := by
  unfold State.startJob
  simp only
  split
  · exact .trans (s.updateJob_keepsPool j fun _ => by rfl) (State.setBranch_keepsPool _ b rfl)
  · split
    · exact s.enterRecovery_keepsPool b _
    · exact s.enterWaitFree_keepsPool b

theorem State.selectIfIdle_keepsPool (b : BranchId) : KeepsPool s (s.selectIfIdle b) := by
  unfold State.selectIfIdle
  split
  · split
    · exact .refl s
    · exact s.startJob_keepsPool b _
  all_goals exact .refl s

theorem State.becomeIdle_keepsPool (b : BranchId) : KeepsPool s (s.becomeIdle b) :=
  (s.setEngine_keepsPool b _).trans (State.selectIfIdle_keepsPool _ b)

theorem State.makeEnding_keepsPool (j : Job) (cause : EndCause) (atBoundary : Bool) :
    KeepsPool s (s.makeEnding j cause atBoundary) :=
  .trans (s.updateJob_keepsPool j fun _ => by rfl) (State.setEngine_keepsPool _ _ _)

theorem State.enterPhase_keepsPool (b : BranchId) (c : Conduct) (p : Phase) : KeepsPool s (s.enterPhase b c p) :=
  s.setBranch_keepsPool b rfl

theorem State.countLoss_keepsPool (b : BranchId) : KeepsPool s (s.countLoss b) := s.setBranch_keepsPool b rfl

theorem State.retryEnds_keepsPool (j : Job) : KeepsPool s (s.retryEnds j) :=
  .trans (s.updateJob_keepsPool j fun _ => by rfl) (State.selectIfIdle_keepsPool _ _)

theorem State.selectForRoute_keepsPool (r : RouteId) : KeepsPool s (s.selectForRoute r) := by
  unfold State.selectForRoute
  split
  · exact .refl s
  · exact s.selectIfIdle_keepsPool _

theorem State.resetPresence_keepsPool (r : RouteId) : KeepsPool s (s.resetPresence r) := by
  unfold State.resetPresence
  simp only
  split
  · exact s.setRoute_keepsPool r _
  · exact (s.setRoute_keepsPool r _).trans (State.changePresence_keepsPool ..)

end

end Sys2Proof.Machine
end

section
/-! SUPPORT. What the end of a job can do to the pool and to the replies (R19, R24, R73). -/

namespace Sys2Proof.Machine

/-! ### What the end of jobs can do -/

/-- What an event may do to the pool and to the replies: jobs leave and none joins, no watch is armed or disarmed, the rest
of the state stays, no RESTART reply is made, and, where `known` gives the facts about the pool that this needs, no more
replies wait or are owed than before. -/
structure Settles (known : Prop) (s t : State) : Prop where
  rest : t.rest = s.rest
  armed : ∀ w, (t.watch w).armed = (s.watch w).armed
  queues : ∀ b, (t.identities b).Sublist (s.identities b)
  restarts : t.replies.countP Frame.isRestartReply = s.replies.countP Frame.isRestartReply
  load : known → t.load ≤ s.load

theorem KeepsPool.settles {known : Prop} {s t : State} (h : KeepsPool s t) : Settles known s t :=
  ⟨h.rest, h.armed, fun b => by rw [h.queues b], by rw [h.replies], fun _ => h.load.le⟩

/-- The branches after a job has left its queue. -/
def State.Loses (s : State) (j : Job) (t : State) : Prop :=
  ∀ k, t.branch k =
    if j.branch = k then { s.branch k with queue := (s.branch k).queue.filter fun i => i.slot ≠ j.slot } else s.branch k

theorem State.Loses.queue {s t : State} {j : Job} (h : s.Loses j t) (k : BranchId) :
    (t.branch k).queue =
      if j.branch = k then (s.branch k).queue.filter fun i => i.slot ≠ j.slot else (s.branch k).queue := by
  rw [h k]
  split <;> rfl

theorem State.Loses.queues {s t : State} {j : Job} (h : s.Loses j t) (b : BranchId) :
    (t.identities b).Sublist (s.identities b) := by
  rw [State.identities, h.queue]
  split
  · exact List.filter_sublist.map _
  · exact .refl _

/-- A job in another slot is still held. -/
theorem State.Loses.holds {s t : State} {i j : Job} (h : s.Loses j t) (other : i.slot ≠ j.slot) (held : s.Holds i) :
    t.Holds i := by
  obtain ⟨i', member, e⟩ := List.mem_map.1 held
  have slot : i'.slot = i.slot := (congrArg Job.slot e :)
  refine List.mem_map.2 ⟨i', ?_, e⟩
  rw [h.queue]
  split
  · simp [member, slot, other]
  · exact member

/-- The debts of a job leave the pool with it. -/
theorem State.Loses.debts {s t : State} {j : Job} (h : s.Loses j t) (held : s.Holds j) :
    (∑ b : BranchId, queueDebts (t.branch b).queue) + j.debts ≤ ∑ b : BranchId, queueDebts (s.branch b).queue := by
  obtain ⟨i, member, e⟩ := List.mem_map.1 held
  have slot : i.slot = j.slot := (congrArg Job.slot e :)
  have same : i.debts = j.debts := (congrArg Job.debts e :)
  have sums : (∑ b : BranchId, queueDebts (t.branch b).queue) + queueDebts (s.branch j.branch).queue =
      (∑ b : BranchId, queueDebts (s.branch b).queue) + queueDebts (t.branch j.branch).queue :=
    sum_change j.branch (f := fun b => queueDebts (s.branch b).queue)
      (g := fun b => queueDebts (t.branch b).queue) fun k hk => by rw [h.queue, if_neg (Ne.symm hk)]
  have parts := queueDebts_filter (fun i => i.slot ≠ j.slot) (s.branch j.branch).queue
  have own : i.debts ≤ queueDebts ((s.branch j.branch).queue.filter fun i => !decide (i.slot ≠ j.slot)) :=
    debts_le_queueDebts (List.mem_filter.2 ⟨member, by simp [slot]⟩)
  have less : queueDebts (t.branch j.branch).queue + j.debts ≤ queueDebts (s.branch j.branch).queue := by
    rw [h.queue, if_pos rfl]
    omega
  omega

/-- A job leaves the pool, and no more replies are made than it owed. -/
theorem Settles.of_end {known : Prop} {s t : State} {j : Job} {more : List Frame} (rest : t.rest = s.rest)
    (armed : ∀ w, (t.watch w).armed = (s.watch w).armed) (resets : t.pendingResets = s.pendingResets)
    (queues : s.Loses j t) (replies : t.replies = s.replies ++ more)
    (other : ∀ f ∈ more, f.isRestartReply = false) (paid : more.length ≤ j.debts) (held : known → s.Holds j) :
    Settles known s t := by
  refine ⟨rest, armed, queues.queues, ?_, fun k => ?_⟩
  · have none : more.countP Frame.isRestartReply = 0 := List.countP_eq_zero.2 fun f hf => by simp [other f hf]
    rw [replies, List.countP_append, none, Nat.add_zero]
  · obtain ⟨-, -, -, -, -, -, -, -, -, -, close, restart, -⟩ := State.rest_fields rest
    have debts := queues.debts (held k)
    simp only [State.load_eq, close, restart, State.pendingReset, resets, replies, List.length_append]
    omega

theorem Settles.refl {known : Prop} (s : State) : Settles known s s := (KeepsPool.refl s).settles

theorem Settles.trans {known : Prop} {s t u : State} (h : Settles known s t) (k : Settles known t u) :
    Settles known s u :=
  ⟨k.rest.trans h.rest, fun w => (k.armed w).trans (h.armed w), fun b => (k.queues b).trans (h.queues b),
    k.restarts.trans h.restarts, fun x => (k.load x).trans (h.load x)⟩

theorem Settles.keeps {known : Prop} {s t u : State} (h : Settles known s t) (k : KeepsPool t u) :
    Settles known s u := h.trans k.settles

theorem KeepsPool.then {known : Prop} {s t u : State} (h : KeepsPool s t) (k : Settles known t u) :
    Settles known s u := h.settles.trans k

theorem Settles.pool {known : Prop} {s t : State} (h : Settles known s t) (law : PoolLaw s) : PoolLaw t :=
  law.of_identities h.queues

theorem KeepsPool.pool {s t : State} (h : KeepsPool s t) (law : PoolLaw s) : PoolLaw t :=
  law.of_identities fun b => by rw [h.queues b]

theorem KeepsPool.holds {s t : State} (h : KeepsPool s t) {j : Job} (held : s.Holds j) : t.Holds j := by
  rw [State.Holds, h.queues]
  exact held

/-- A fold of an operation that ends one job each time, over jobs of the pool in slots of their own. -/
theorem Settles.foldl {known : Prop} {f : State → Job → State}
    (one : ∀ s j, (known → s.Holds j) → Settles known s (f s j))
    (others : ∀ s i j, i.slot ≠ j.slot → s.Holds i → (f s j).Holds i) :
    ∀ (l : List Job) (s : State), (known → (l.map (·.slot)).Nodup ∧ ∀ j ∈ l, s.Holds j) → Settles known s (l.foldl f s)
  | [], s, _ => .refl s
  | j :: l, s, h => by
    refine (one s j fun k => (h k).2 j List.mem_cons_self).trans (Settles.foldl one others l (f s j) fun k => ?_)
    obtain ⟨nodup, held⟩ := h k
    obtain ⟨fresh, nodup⟩ := List.nodup_cons.1 nodup
    refine ⟨nodup, fun i hi => others s i j (fun e => fresh ?_) (held i (List.mem_cons_of_mem _ hi))⟩
    exact List.mem_map.2 ⟨i, hi, e⟩

/-- Jobs picked out of the pool stand in slots of their own, and are held. -/
theorem PoolLaw.picked {s : State} (law : PoolLaw s) (p : Job → Bool) :
    ((s.jobs.filter p).map (·.slot)).Nodup ∧ ∀ j ∈ s.jobs.filter p, s.Holds j :=
  ⟨(List.filter_sublist.map _).nodup law.slots, fun _ hj => law.holds (List.mem_of_mem_filter hj)⟩

/-! ### One job ends -/

theorem endReply_not_restart (j : Job) (tag : Byte) (st : Status) : (j.endReply tag st).isRestartReply = false := by
  have code : (j.requestKind.code + 0x80 == Kind.restart.code + 0x80) = false := by
    unfold Job.requestKind
    split <;> rfl
  rw [Frame.isRestartReply, Job.endReply, code]
  rfl

theorem cancelReply_not_restart (tag target : Byte) (st : Status) :
    (cancelReply tag target st).isRestartReply = false := rfl

section
variable {known : Prop} (s : State) (j : Job)

theorem State.removeJob_loses : s.Loses j (s.removeJob j) := s.branch_removeJob j

theorem State.deliver_loses (st : Status) : s.Loses j (s.deliver j st) := s.branch_deliver j st

/-- A removal touches the tables alone. -/
theorem State.removeJob_eq : s.removeJob j = { s with
    routes := (s.removeJob j).routes
    branches := (s.removeJob j).branches
    watches := (s.removeJob j).watches } := by
  unfold State.removeJob
  simp only
  split <;> split <;> rfl

theorem State.watch_removeJob (w : WatchId) : (s.removeJob j).watch w =
    if j.origin = .watch w then { s.watch w with pollOut := false } else s.watch w := by
  unfold State.removeJob
  cases j.origin with
  | host tag => cases j.route <;> rfl
  | watch v =>
    simp only [Origin.watch.injEq, State.clearPollOut, State.watch_setWatch]
    by_cases e : v = w
    · subst e
      cases j.route <;> rfl
    · rw [if_neg e, if_neg e]
      cases j.route <;> rfl

/-- A job removed without an end record (R75). -/
theorem State.removeJob_settles (held : known → s.Holds j) : Settles known s (s.removeJob j) := by
  have frame := s.removeJob_eq j
  refine .of_end (more := []) (s.removeJob_rest j) (fun w => ?_) (by rw [frame]) (s.removeJob_loses j)
    (by rw [frame, List.append_nil]) (by simp) (Nat.zero_le _) held
  rw [State.watch_removeJob]
  split <;> rfl

theorem State.deliver_settles (st : Status) (held : known → s.Holds j) : Settles known s (s.deliver j st) := by
  have replies := s.deliver_replies j st
  rw [List.append_assoc] at replies
  refine .of_end (s.deliver_rest j st) (fun w => ?_) ?_ (s.deliver_loses j st) replies ?_ ?_ held
  · rw [State.watch, State.deliver_watches]
    rfl
  · unfold State.deliver
    simp only
    repeat' split
    all_goals simp [State.jobLeaves, State.dropJob, (State.presenceOutcome_keepsPool ..).resets]
  · intro f hf
    rcases List.mem_append.1 hf with hf | hf <;> split at hf <;> simp only [List.mem_singleton, List.not_mem_nil] at hf
    · rw [hf]
      exact endReply_not_restart ..
    · rw [hf]
      exact cancelReply_not_restart ..
  · rw [List.length_append, Job.debts]
    refine Nat.add_le_add ?_ ?_
    · cases j.owedTag <;> simp
    · cases j.cancelTag <;> cases j.origin <;> simp

end

end Sys2Proof.Machine
end

section
/-! SUPPORT. What late failures, ends of jobs and ends of recoveries can do to the pool and to the replies (R73,
R112 to R127). -/

namespace Sys2Proof.Machine

/-! ### The purge, late failures, and the end of a job -/

/-- What the purge does to the state with one job of the route, whatever it has counted so far (R125). -/
def State.purgeJob (s : State) (j : Job) : State := (purgeOne (s, Discards.none) j).1

theorem purgeOne_fst (acc : State × Discards) (j : Job) : (purgeOne acc j).1 = acc.1.purgeJob j := by
  unfold State.purgeJob purgeOne
  cases j.origin <;> cases j.post <;> rfl

theorem foldl_purgeOne_fst : ∀ (l : List Job) (acc : State × Discards),
    (l.foldl purgeOne acc).1 = l.foldl State.purgeJob acc.1
  | [], _ => rfl
  | j :: l, acc => by rw [List.foldl_cons, List.foldl_cons, foldl_purgeOne_fst l, purgeOne_fst]

theorem State.purge_fst (s : State) (r : RouteId) (d : Discards) :
    (s.purge r d).1 = (s.jobs.filter fun j => decide (j.route = some r)).foldl State.purgeJob s :=
  foldl_purgeOne_fst _ _

theorem State.Holds.congr {s : State} {i j : Job} (held : s.Holds j) (e : i.identity = j.identity) : s.Holds i := by
  have branch : i.branch = j.branch := (congrArg Job.branch e :)
  rw [State.Holds, e, branch]
  exact held

theorem State.conducting_mem {s : State} {b : BranchId} {c : Conduct} {j : Job} (h : s.conducting b = some (c, j)) :
    j ∈ s.jobs := by
  unfold State.conducting at h
  split at h
  · split at h
    · cases h
    · next found =>
      cases h
      exact State.mem_jobs.2 ⟨b, List.mem_of_find?_eq_some found⟩
  all_goals cases h

theorem Job.withReceived_identity (j : Job) (p : Phase) (received : Option Byte) :
    (j.withReceived p received).identity = j.identity := by
  unfold Job.withReceived
  split <;> rfl

section
variable {known : Prop} (s : State)

theorem State.purgeJob_loses (j : Job) : s.Loses j (s.purgeJob j) := by
  unfold State.purgeJob purgeOne
  split
  · exact s.removeJob_loses j
  · exact s.deliver_loses j.withoutProgress _
  · exact s.removeJob_loses j

theorem State.purgeJob_settles (j : Job) (held : known → s.Holds j) : Settles known s (s.purgeJob j) := by
  unfold State.purgeJob purgeOne
  split
  · exact s.removeJob_settles j held
  · exact s.deliver_settles j.withoutProgress _ fun k => (held k).congr rfl
  · exact s.removeJob_settles j held

theorem State.purge_settles (r : RouteId) (d : Discards) (law : known → PoolLaw s) :
    Settles known s (s.purge r d).1 := by
  rw [State.purge_fst]
  exact .foldl State.purgeJob_settles (fun s i j other held => (s.purgeJob_loses j).holds other held) _ s
    fun k => (law k).picked _

theorem State.carryOut_settles (r : RouteId) (f : FailedPost) (d : Discards) (law : known → PoolLaw s) :
    Settles known s (s.carryOut r f d) := by
  have held := s.setRoute_keepsPool r { s.route r with hold := some ⟨f.post, f.status, 0⟩, waiting := none }
  exact ((held.then (State.purge_settles _ r d fun k => held.pool (law k))).keeps (State.setRoute_keepsPool ..)).keeps
    (State.offer_keepsPool ..)

theorem State.lateFailure_settles (r : RouteId) (f : FailedPost) (law : known → PoolLaw s) :
    Settles known s (s.lateFailure r f) := by
  unfold State.lateFailure
  simp only
  split
  · exact (s.setRoute_keepsPool r _).settles
  · exact s.carryOut_settles r f _ law

theorem State.settleWaiting_settles (r : RouteId) (law : known → PoolLaw s) : Settles known s (s.settleWaiting r) := by
  unfold State.settleWaiting
  split
  · exact .refl s
  · split
    · exact .refl s
    · split
      · exact s.carryOut_settles r _ _ law
      · exact ((s.setRoute_keepsPool r _).trans (State.countDiscards_keepsPool _ _)).settles

theorem State.settleRouteOf_settles (j : Job) (law : known → PoolLaw s) : Settles known s (s.settleRouteOf j) := by
  unfold State.settleRouteOf
  split
  · exact .refl s
  · exact s.settleWaiting_settles _ law

theorem State.postedEnds_settles (j : Job) (st : Status) (law : known → PoolLaw s) :
    Settles known s (s.postedEnds j st) := by
  unfold State.postedEnds
  split
  · split
    · exact .refl s
    · split
      · exact s.lateFailure_settles _ _ law
      · exact (s.countDiscards_keepsPool 1).settles
  · exact .refl s

variable (j : Job) (st : Status) (law : known → PoolLaw s) (held : known → s.Holds j)
include law held

theorem State.endDelivered_settles : Settles known s (s.endDelivered j st) := by
  have counted := s.countCloseEnd_keepsPool j st
  have delivered := counted.then ((s.countCloseEnd j st).deliver_settles j st fun k => counted.holds (held k))
  exact delivered.trans (State.postedEnds_settles _ j st fun k => delivered.pool (law k))

/-- The end of a job that waits in its queue. -/
theorem State.endJob_settles : Settles known s (s.endJob j st) :=
  (s.endDelivered_settles j st law held).keeps (State.watchTakes_keepsPool ..)

/-- The end of the job an engine was conducting. -/
theorem State.endOnWires_settles : Settles known s (s.endOnWires j st) := by
  have ended := s.endDelivered_settles j st law held
  exact (ended.trans (State.settleRouteOf_settles _ j fun k => ended.pool (law k))).keeps
    (State.watchTakes_keepsPool ..)

theorem State.lossBeforeAck_settles (b : BranchId) : Settles known s (s.lossBeforeAck b j) := by
  have counted := s.countLoss_keepsPool b
  unfold State.lossBeforeAck
  simp only
  split
  · have queued := counted.trans ((s.countLoss b).updateJob_keepsPool j (f := Job.requeued) fun _ => rfl)
    exact (queued.then (State.settleRouteOf_settles _ j fun k => queued.pool (law k))).keeps
      (State.enterWaitFree_keepsPool ..)
  · exact (counted.then (State.endOnWires_settles _ (Job.withoutProgress { j with arbLosses := j.arbLosses + 1 }) _
      (fun k => counted.pool (law k)) fun k => (counted.holds (held k)).congr rfl)).keeps
      (State.enterWaitFree_keepsPool ..)

theorem State.lossAfterAck_settles (b : BranchId) : Settles known s (s.lossAfterAck b j) := by
  have counted := s.countLoss_keepsPool b
  exact (counted.then (State.endOnWires_settles _ _ _ (fun k => counted.pool (law k))
    fun k => counted.holds (held k))).keeps (State.enterWaitFree_keepsPool ..)

theorem State.busFault_settles (b : BranchId) : Settles known s (s.busFault b j) :=
  (s.endOnWires_settles j _ law held).keeps (State.enterRecovery_keepsPool ..)

theorem State.deadlineExpires_settles (atBoundary : Bool) : Settles known s (s.deadlineExpires j atBoundary) := by
  unfold State.deadlineExpires
  split
  · exact (s.endJob_settles j.withoutProgress _ law fun k => (held k).congr rfl).keeps
      (State.selectIfIdle_keepsPool ..)
  · exact (s.endJob_settles j.withoutProgress _ law fun k => (held k).congr rfl).keeps
      (State.selectIfIdle_keepsPool ..)
  · exact (s.makeEnding_keepsPool ..).settles
  · exact .refl s

end

/-! ### The end of a recovery -/

section
variable {known : Prop} (s : State) (b : BranchId)

/-- The reply to a pending BRANCH_RESET was owed until it is made. -/
theorem State.answerBranchReset_settles (st : Status) : Settles known s (s.answerBranchReset b st) := by
  unfold State.answerBranchReset
  split
  · exact .refl s
  · next tag pending =>
    refine ⟨rfl, fun _ => rfl, fun _ => .refl _, ?_, fun _ => ?_⟩
    · simp [Frame.isRestartReply, branchResetReply, Kind.code]
    · have resets : (∑ k : BranchId, ((s.setPendingReset b none).pendingReset k).toList.length) +
          (s.pendingReset b).toList.length = (∑ k : BranchId, (s.pendingReset k).toList.length) +
          ((s.setPendingReset b none).pendingReset b).toList.length :=
        sum_change b (f := fun k => (s.pendingReset k).toList.length)
          (g := fun k => ((s.setPendingReset b none).pendingReset k).toList.length) fun k hk => by
            rw [State.pendingReset_setPendingReset, if_neg (Ne.symm hk)]
      simp only [pending, State.pendingReset_setPendingReset_self, Option.toList_some, Option.toList_none,
        List.length_singleton, List.length_nil] at resets
      simp only [State.load_eq, State.pushReply_replies, List.length_append, List.length_singleton,
        State.pushReply_branch, State.pushReply_pendingClose, State.pushReply_pendingRestart,
        State.pushReply_pendingReset, State.setPendingReset_replies, State.setPendingReset_branch,
        State.setPendingReset_pendingClose, State.setPendingReset_pendingRestart]
      omega

theorem State.recoverySucceeds_settles (c : RecoveryCause) : Settles known s (s.recoverySucceeds b c) := by
  have idle := s.setBranch_keepsPool b (v := { s.branch b with
    recoveries := bump Config.counterMax (s.branch b).recoveries
    engine := .idle }) rfl
  unfold State.recoverySucceeds
  simp only
  split
  · exact (idle.then (State.answerBranchReset_settles ..)).keeps (State.selectIfIdle_keepsPool ..)
  · exact ((idle.trans (State.offer_keepsPool ..)).then (State.answerBranchReset_settles ..)).keeps
      (State.selectIfIdle_keepsPool ..)

theorem State.busBecomesFree_settles : Settles known s (s.busBecomesFree b) := by
  have free := s.setBranch_keepsPool b (v := { s.branch b with busFree := true }) rfl
  unfold State.busBecomesFree
  simp only
  split
  · exact (free.trans (State.becomeIdle_keepsPool ..)).settles
  · exact free.then (State.recoverySucceeds_settles ..)
  all_goals exact free.settles

end

/-- One job of the first pass of the drain leaves its queue, or the pass leaves it. -/
theorem drainFirst_settles {known : Prop} (s : State) (j : Job) (held : known → s.Holds j) :
    Settles known s (drainFirst s j) := by
  unfold drainFirst
  split
  · exact .refl s
  · next tag origin post =>
    have owed : j.withoutProgress.owedTag = some tag := by
      simp [Job.owedTag, Job.withoutProgress, origin, post]
    rw [State.endJob_owed owed]
    have counted := s.countCloseEnd_keepsPool j.withoutProgress .branchDown
    exact counted.then (State.deliver_settles _ _ _ fun k => (counted.holds (held k)).congr rfl)
  · exact s.removeJob_settles j held

theorem drainFirst_holds (s : State) (i j : Job) (other : i.slot ≠ j.slot) (held : s.Holds i) :
    (drainFirst s j).Holds i := by
  unfold drainFirst
  split
  · exact held
  · next tag origin post =>
    have owed : j.withoutProgress.owedTag = some tag := by
      simp [Job.owedTag, Job.withoutProgress, origin, post]
    rw [State.endJob_owed owed]
    exact (State.deliver_loses _ j.withoutProgress _).holds other
      ((s.countCloseEnd_keepsPool j.withoutProgress .branchDown).holds held)
  · exact (s.removeJob_loses j).holds other held

/-- The second pass meets only jobs of the queue it was given, each in its slot. -/
theorem foldl_drainSecond_settles {known : Prop} (b : BranchId) :
    ∀ (l : List Job) (s : State), (known → PoolLaw s ∧
      ∀ j ∈ l, j.branch = b ∧ ∀ i ∈ s.identities b, i.slot = j.slot → i = j.identity) →
    Settles known s (l.foldl (drainSecond b) s)
  | [], s, _ => .refl s
  | j :: l, s, h => by
    have one : Settles known s (drainSecond b s j) := by
      unfold drainSecond
      split
      · next present =>
        obtain ⟨i, member, slot⟩ := List.any_eq_true.1 present
        refine s.endJob_settles j.withoutProgress _ (fun k => (h k).1) fun k => ?_
        obtain ⟨branch, same⟩ := (h k).2 j List.mem_cons_self
        have e := same i.identity (List.mem_map_of_mem member) (beq_iff_eq.1 slot)
        refine State.Holds.congr (j := j) ?_ rfl
        rw [State.Holds, branch, ← e]
        exact List.mem_map_of_mem member
      · exact .refl s
    refine one.trans (foldl_drainSecond_settles b l _ fun k => ⟨one.pool (h k).1, fun j' hj' => ?_⟩)
    obtain ⟨branch, same⟩ := (h k).2 j' (List.mem_cons_of_mem _ hj')
    exact ⟨branch, fun i hi => same i ((one.queues b).subset hi)⟩

section
variable {known : Prop} (s : State) (b : BranchId) (law : known → PoolLaw s)
include law

theorem State.drain_settles : Settles known s (s.drain b) := by
  have first : Settles known s ((s.branch b).queue.foldl drainFirst s) :=
    .foldl drainFirst_settles drainFirst_holds _ s fun k =>
      ⟨(law k).queue_slots b, fun j hj => (law k).holds (State.mem_jobs.2 ⟨b, hj⟩)⟩
  refine first.trans (foldl_drainSecond_settles b _ _ fun k => ⟨first.pool (law k), fun j hj => ?_⟩)
  have pool := first.pool (law k)
  refine ⟨pool.placed b j hj, fun i hi slot => ?_⟩
  obtain ⟨i', hi', rfl⟩ := List.mem_map.1 hi
  rw [slots_inj (pool.queue_slots b) hi' hj slot]

theorem State.recoveryFails_settles (c : RecoveryCause) : Settles known s (s.recoveryFails b c) := by
  have isolated := s.setBranch_keepsPool b (v := { s.branch b with
    isolations := bump Config.counterMax (s.branch b).isolations
    engine := .isolated }) rfl
  exact ((isolated.then (State.drain_settles _ b fun k => isolated.pool (law k))).trans
    (State.answerBranchReset_settles ..)).keeps (State.offer_keepsPool ..)

end

end Sys2Proof.Machine
end

section
/-! SUPPORT. What the events on the branches and of the timers can do to the pool and to the replies. -/

namespace Sys2Proof.Machine

/-- The answer is a next state in which the pool and the replies are as `Settles` has it. -/
def AnswerSettles (known : Prop) (s : State) (a : Answer) : Prop := ∃ t, a = .next t ∧ Settles known s t

theorem Settles.next {known : Prop} {s t : State} (h : Settles known s t) : AnswerSettles known s (.next t) :=
  ⟨t, rfl, h⟩

theorem KeepsPool.next {known : Prop} {s t : State} (h : KeepsPool s t) : AnswerSettles known s (.next t) :=
  h.settles.next

theorem AnswerSettles.same {known : Prop} (s : State) : AnswerSettles known s (.next s) := (Settles.refl s).next

/-- An event that acts under a condition, and otherwise changes nothing. -/
theorem AnswerSettles.ite {known : Prop} {s t : State} {p : Prop} [Decidable p] (h : Settles known s t) :
    AnswerSettles known s (.next (if p then t else s)) := by
  split
  · exact h.next
  · exact .same s

section
variable {known : Prop} (s : State) (b : BranchId)

theorem execBusFreeSet_settles : AnswerSettles known s (execBusFreeSet b s) := .ite (s.busBecomesFree_settles b)

theorem execRetryWaitEnds_settles (slot : SlotId) : AnswerSettles known s (execRetryWaitEnds slot s) := by
  unfold execRetryWaitEnds
  split
  · exact .same s
  · split
    · exact .ite (s.retryEnds_keepsPool _).settles
    all_goals exact .same s

theorem execStartPhaseDone_settles : AnswerSettles known s (execStartPhaseDone b s) := by
  unfold execStartPhaseDone
  split
  · exact .same s
  · split
    · exact (s.enterPhase_keepsPool ..).next
    all_goals exact .same s

theorem execRestartPhaseDone_settles : AnswerSettles known s (execRestartPhaseDone b s) := by
  unfold execRestartPhaseDone
  split
  · exact .same s
  · split
    · exact (s.enterPhase_keepsPool ..).next
    all_goals exact .same s

theorem execAddressPhaseDone_settles (acknowledged : Bool) :
    AnswerSettles known s (execAddressPhaseDone b acknowledged s) := by
  unfold execAddressPhaseDone
  split
  · exact .same s
  · next c j _ =>
    have acked : KeepsPool s (s.ackAddress j) := s.updateJob_keepsPool j fun _ => rfl
    split
    · split
      · exact (acked.trans (State.enterPhase_keepsPool ..)).next
      · exact (s.enterPhase_keepsPool ..).next
    · split <;> exact (s.enterPhase_keepsPool ..).next
    all_goals exact .same s

theorem execWritingByteDone_settles (acknowledged : Bool) :
    AnswerSettles known s (execWritingByteDone b acknowledged s) := by
  unfold execWritingByteDone
  split
  · exact .same s
  · next c j _ =>
    split
    · next k _ =>
      have acked := s.updateJob_keepsPool j (f := fun i => { i with ackedWrites := k + 1 }) fun _ => rfl
      split
      · exact (acked.trans (State.enterPhase_keepsPool ..)).next
      · exact (s.enterPhase_keepsPool ..).next
    all_goals exact .same s

theorem execReadingByteDone_settles (received : Byte) : AnswerSettles known s (execReadingByteDone b received s) := by
  unfold execReadingByteDone
  split
  · exact .same s
  · next c j _ =>
    have read : KeepsPool s (s.appendRead j received) := s.updateJob_keepsPool j fun _ => rfl
    split
    · exact (read.trans (State.enterPhase_keepsPool ..)).next
    all_goals exact .same s

theorem execRecoveryStopDone_settles (dataHigh : Bool) : AnswerSettles known s (execRecoveryStopDone b dataHigh s) := by
  unfold execRecoveryStopDone
  split
  · exact .same s
  · split
    · exact (s.setBranch_keepsPool b (by rfl)).next
    · exact .same s

/-- A line change is the branch's own: its queue stays. -/
theorem Branch.react_queue (br : Branch) (now : Nat) (line : BusLine) : (br.react now line).queue = br.queue := by
  unfold Branch.react
  repeat' split
  all_goals rfl

theorem execBranchLineLevelChange_settles (line : BusLine) (high : Bool) :
    AnswerSettles known s (execBranchLineLevelChange b line high s) := by
  unfold execBranchLineLevelChange
  simp only
  split
  · exact .same s
  · exact (s.setBranch_keepsPool b (by rw [Branch.react_queue]; rfl)).next

variable (law : known → PoolLaw s)
include law

theorem execJobDeadlineExpires_settles (slot : SlotId) (atBoundary : Bool) :
    AnswerSettles known s (execJobDeadlineExpires slot atBoundary s) := by
  unfold execJobDeadlineExpires
  split
  · exact .same s
  · next j found =>
    exact .ite (s.deadlineExpires_settles j law (fun k => (law k).holds (List.mem_of_find?_eq_some found)) _)

theorem execStuckLineIntervalExpires_settles : AnswerSettles known s (execStuckLineIntervalExpires b s) := by
  unfold execStuckLineIntervalExpires
  split
  · split
    · exact .same s
    · exact .ite (s.enterRecovery_keepsPool ..).settles
  · exact .ite (s.recoveryFails_settles b law _)
  all_goals exact .same s

theorem execStoppingDone_settles : AnswerSettles known s (execStoppingDone b s) := by
  unfold execStoppingDone
  split
  · exact .same s
  · next c j found =>
    have stopped := s.setBranch_keepsPool b (v := (s.branch b).stopped) rfl
    have pool := fun k => stopped.pool (law k)
    have held := fun k => stopped.holds ((law k).holds (State.conducting_mem found))
    split
    · simp only
      split
      · exact ((stopped.then (State.endOnWires_settles _ _ _ pool held)).keeps (State.becomeIdle_keepsPool ..)).next
      · next readyAt _ =>
        have waits := State.updateJob_keepsPool (s.setBranch b (s.branch b).stopped) j
          (f := fun i => i.retrying readyAt) fun _ => rfl
        exact (((stopped.trans waits).then (State.settleRouteOf_settles _ j fun k => waits.pool (pool k))).keeps
          (State.becomeIdle_keepsPool ..)).next
    all_goals exact .same s

theorem execStretchIntervalExpires_settles (seen : StretchEnd) :
    AnswerSettles known s (execStretchIntervalExpires b seen s) := by
  unfold execStretchIntervalExpires
  split
  · exact .same s
  · next c j found =>
    have low := s.setBranch_keepsPool b (v := (s.branch b).see ⟨false, seen.dataHigh⟩) rfl
    have held := fun k => low.holds ((law k).holds (State.conducting_mem found))
    split
    · exact .same s
    · split
      · exact ((low.then (State.endOnWires_settles _ _ _ (fun k => low.pool (law k))
          fun k => (held k).congr (j.withReceived_identity ..))).keeps (State.enterRecovery_keepsPool ..)).next
      · exact .same s

theorem execContradiction_settles (received : Byte) : AnswerSettles known s (execContradiction b received s) := by
  unfold execContradiction
  split
  · exact .same s
  · next c j found =>
    have seen := s.setBranch_keepsPool b (v := (s.branch b).see ⟨true, false⟩) rfl
    have pool := fun k => seen.pool (law k)
    have held := fun k => (seen.holds ((law k).holds (State.conducting_mem found))).congr
      (j.withReceived_identity c.phase (some received))
    split
    · refine Settles.next ?_
      split
      · split
        · exact seen.then (State.lossAfterAck_settles _ _ pool held b)
        · exact seen.then (State.lossBeforeAck_settles _ _ pool held b)
      · exact seen.then (State.busFault_settles _ _ pool held b)
    · exact .same s

theorem execRecoveryClockIntervalExpires_settles : AnswerSettles known s (execRecoveryClockIntervalExpires b s) := by
  have low := s.setBranch_keepsPool b (v := (s.branch b).see ⟨false, (s.branch b).lines.dataHigh⟩) rfl
  unfold execRecoveryClockIntervalExpires
  split
  · exact .same s
  · exact .ite (low.then (State.recoveryFails_settles _ b (fun k => low.pool (law k)) _))

theorem execRecoveryPulseDone_settles (dataHigh : Bool) : AnswerSettles known s (execRecoveryPulseDone b dataHigh s) := by
  have pulsed := s.setBranch_keepsPool b (v := (s.branch b).pulsed dataHigh) rfl
  unfold execRecoveryPulseDone
  split
  · exact .same s
  · split
    · simp only
      split
      · exact (pulsed.then (State.recoveryFails_settles _ b (fun k => pulsed.pool (law k)) _)).next
      · exact (s.setBranch_keepsPool b (by rfl)).next
    · exact .same s

theorem execWaitingLateFailureCarriedOut_settles (r : RouteId) :
    AnswerSettles known s (execWaitingLateFailureCarriedOut r s) := by
  unfold execWaitingLateFailureCarriedOut
  refine Settles.next ?_
  split
  · exact .refl s
  · exact (s.settleWaiting_settles r law).keeps (State.selectForRoute_keepsPool ..)

end

/-- The events on the branches and of the timers, which make no job: all but the expiry of a watch's countdown. -/
def ofTheBranches : Instr → Bool
  | .jobDeadlineExpires _ _ | .retryWaitEnds _ | .busFreeSet _ | .stuckLineIntervalExpires _ | .startPhaseDone _ => true
  | .addressPhaseDone _ _ | .writingByteDone _ _ | .readingByteDone _ _ | .restartPhaseDone _ => true
  | .stoppingDone _ | .stretchIntervalExpires _ _ | .contradiction _ _ | .recoveryClockIntervalExpires _ => true
  | .recoveryPulseDone _ _ | .recoveryStopDone _ _ | .waitingLateFailureCarriedOut _ => true
  | .branchLineLevelChange _ _ _ => true
  | _ => false

/-- Every such event settles: it makes no job, arms no watch, and owes no reply that it does not pay for. -/
theorem exec_settles {known : Prop} {c : Instr} {s : State} (h : ofTheBranches c = true) (law : known → PoolLaw s) :
    AnswerSettles known s (exec c s) := by
  cases c with
  | jobDeadlineExpires slot atBoundary => exact execJobDeadlineExpires_settles s law slot atBoundary
  | retryWaitEnds slot => exact execRetryWaitEnds_settles s slot
  | busFreeSet b => exact execBusFreeSet_settles s b
  | stuckLineIntervalExpires b => exact execStuckLineIntervalExpires_settles s b law
  | startPhaseDone b => exact execStartPhaseDone_settles s b
  | addressPhaseDone b acknowledged => exact execAddressPhaseDone_settles s b acknowledged
  | writingByteDone b acknowledged => exact execWritingByteDone_settles s b acknowledged
  | readingByteDone b received => exact execReadingByteDone_settles s b received
  | restartPhaseDone b => exact execRestartPhaseDone_settles s b
  | stoppingDone b => exact execStoppingDone_settles s b law
  | stretchIntervalExpires b seen => exact execStretchIntervalExpires_settles s b law seen
  | contradiction b received => exact execContradiction_settles s b law received
  | recoveryClockIntervalExpires b => exact execRecoveryClockIntervalExpires_settles s b law
  | recoveryPulseDone b dataHigh => exact execRecoveryPulseDone_settles s b law dataHigh
  | recoveryStopDone b dataHigh => exact execRecoveryStopDone_settles s b dataHigh
  | waitingLateFailureCarriedOut r => exact execWaitingLateFailureCarriedOut_settles s law r
  | branchLineLevelChange b line high => exact execBranchLineLevelChange_settles s b line high
  | _ => cases h

end Sys2Proof.Machine
end

section
/-! SUPPORT. What a request may do to the replies waiting and owed, and to the session's records. -/

namespace Sys2Proof.Machine

/-! ### What a request may do -/

/-- The fields that say how far a CLOSE or RESTART is (R19, R32 to R35). -/
def State.closing (s : State) : Session × Option Byte × Option Byte × Bool × Bool × Option Transmission :=
  (s.session, s.pendingClose, s.pendingRestart, s.intakeStopped, s.restartSent, s.transmitting)

theorem State.closing_of_rest {s t : State} (h : t.rest = s.rest) : t.closing = s.closing := by
  obtain ⟨-, -, -, -, -, sending, -, -, session, -, close, restart, stopped, sent, -⟩ := State.rest_fields h
  rw [State.closing, State.closing, session, close, restart, stopped, sent, sending]

/-- No CLOSE or RESTART goes further, no RESTART reply is made, and at most `n` more replies wait or are owed than before,
where `known` gives the facts about the pool that this needs. -/
structure Serves (known : Prop) (n : Nat) (s t : State) : Prop where
  closing : t.closing = s.closing
  restarts : t.replies.countP Frame.isRestartReply = s.replies.countP Frame.isRestartReply
  load : known → t.load ≤ s.load + n

theorem Settles.serves {known : Prop} {s t : State} (h : Settles known s t) : Serves known 0 s t :=
  ⟨State.closing_of_rest h.rest, h.restarts, h.load⟩

theorem KeepsPool.serves {known : Prop} {s t : State} (h : KeepsPool s t) : Serves known 0 s t := h.settles.serves

theorem Serves.trans {known : Prop} {m n : Nat} {s t u : State} (h : Serves known m s t) (k : Serves known n t u) :
    Serves known (m + n) s u :=
  ⟨k.closing.trans h.closing, k.restarts.trans h.restarts, fun x => by
    have first := h.load x
    have second := k.load x
    omega⟩

theorem Serves.keeps {known : Prop} {n : Nat} {s t u : State} (h : Serves known n s t) (k : KeepsPool t u) :
    Serves known n s u := h.trans (n := 0) k.serves

theorem KeepsPool.serving {known : Prop} {n : Nat} {s t u : State} (h : KeepsPool s t) (k : Serves known n t u) :
    Serves known n s u := by
  have both := h.serves.trans k
  rwa [Nat.zero_add] at both

theorem State.pushReply_load (s : State) (f : Frame) : (s.pushReply f).load = s.load + 1 := by
  show (s.replies ++ [f]).length + s.owedTags.length = s.replies.length + s.owedTags.length + 1
  rw [List.length_append, List.length_singleton]
  omega

/-- One reply that is not the RESTART reply. -/
theorem State.pushReply_serves {known : Prop} (s : State) {f : Frame} (h : f.isRestartReply = false) :
    Serves known 1 s (s.pushReply f) :=
  ⟨rfl, by simp [h], fun _ => (s.pushReply_load f).le⟩

theorem replyWith_not_restart {f : Frame} {k : Kind} (kind : f.kind = k.code) (other : k ≠ .restart)
    (payload : List Byte) : (f.replyWith payload).isRestartReply = false := by
  have code : (k.code + 0x80 == Kind.restart.code + 0x80) = false := by
    cases k
    case restart => exact absurd rfl other
    all_goals rfl
  rw [Frame.isRestartReply, Frame.replyWith, kind, code]
  rfl

/-- A refusal is not the RESTART reply, which carries OK. -/
theorem refusal_not_restart (f : Frame) {st : Status} (h : st ≠ .ok) :
    (f.replyWith [st.code]).isRestartReply = false := by
  have code : ([st.code] == [Status.code .ok]) = false := by
    cases st
    case ok => exact absurd rfl h
    all_goals rfl
  rw [Frame.isRestartReply, Frame.replyWith, code, Bool.and_false]

/-! ### A new job -/

theorem insertAfterLast_perm (p : Job → Bool) (j : Job) : ∀ q : List Job, (insertAfterLast p j q).Perm (j :: q)
  | [] => .refl _
  | i :: q => by
    unfold insertAfterLast
    split
    · exact ((insertAfterLast_perm p j q).cons i).trans (.swap ..)
    · exact .refl _

/-- A job placed is added to the queue. -/
theorem placeJob_perm (j : Job) (q : List Job) : (placeJob j q).Perm (j :: q) := by
  unfold placeJob
  split
  · exact insertAfterLast_perm ..
  · exact List.perm_append_singleton ..

/-- A queue that changes in one branch changes the load by the debts of that queue. -/
theorem State.setBranch_load (s : State) (b : BranchId) (v : Branch) :
    (s.setBranch b v).load + queueDebts (s.branch b).queue = s.load + queueDebts v.queue := by
  have sums : (∑ k : BranchId, queueDebts ((s.setBranch b v).branch k).queue) + queueDebts (s.branch b).queue =
      (∑ k : BranchId, queueDebts (s.branch k).queue) + queueDebts ((s.setBranch b v).branch b).queue :=
    sum_change b (f := fun k => queueDebts (s.branch k).queue)
      (g := fun k => queueDebts ((s.setBranch b v).branch k).queue) fun k hk => by
        rw [State.branch_setBranch, if_neg (Ne.symm hk)]
  rw [State.branch_setBranch_self] at sums
  simp only [State.load_eq, State.setBranch_replies, State.setBranch_pendingClose, State.setBranch_pendingRestart,
    State.setBranch_pendingReset]
  omega

theorem State.placeInQueue_load (s : State) (j : Job) : (s.placeInQueue j).load = s.load + j.debts := by
  have placed : queueDebts (placeJob j (s.branch j.branch).queue) = j.debts + queueDebts (s.branch j.branch).queue :=
    ((placeJob_perm j _).map Job.debts).sum_eq.trans List.sum_cons
  have change : (s.placeInQueue j).load + queueDebts (s.branch j.branch).queue =
      s.load + queueDebts (placeJob j (s.branch j.branch).queue) := s.setBranch_load ..
  omega

/-- A new job owes what it owes. -/
theorem State.acceptJob_serves {known : Prop} (s : State) {j : Job} {n : Nat} (h : j.debts = n) :
    Serves known n s (s.acceptJob j) := by
  have placed : Serves known n s (s.placeInQueue j) := ⟨rfl, rfl, fun _ => by rw [s.placeInQueue_load, h]⟩
  exact placed.keeps (State.selectIfIdle_keepsPool ..)

theorem State.makePoll_serves {known : Prop} (s : State) (w : WatchId) (c : WatchConfig) (slot : SlotId)
    (rc : RouteConfig) : Serves known 0 s (s.makePoll w c slot rc) := by
  have out := s.setWatch_keepsPool w (v := { s.watch w with pollOut := true }) rfl
  exact (out.trans (State.setRoute_keepsPool ..)).serving (State.acceptJob_serves _ rfl)

/-- The expiry of a watch's countdown owes no reply: a poll has none (R155). -/
theorem State.countdownExpires_serves {known : Prop} (s : State) (w : WatchId) (c : WatchConfig) :
    Serves known 0 s (s.countdownExpires w c) := by
  have restarted := s.setWatch_keepsPool w (v := { s.watch w with countdown := c.period }) rfl
  unfold State.countdownExpires
  simp only
  split
  · exact (restarted.trans (State.countMissed_keepsPool _ w)).serves
  · exact restarted.serving (State.makePoll_serves ..)

end Sys2Proof.Machine
end

section
/-! SUPPORT. What each request does to the replies waiting and owed. -/

namespace Sys2Proof.Machine

/-! ### The requests -/

/-- At most one job of a queue with its slots all different has its record changed, so at most one debt is added. -/
theorem queueDebts_change {f : Job → Job} (h : ∀ i, (f i).debts ≤ i.debts + 1) (n : SlotId) :
    ∀ {q : List Job}, (q.map (·.slot)).Nodup → queueDebts (q.map fun i => if i.slot = n then f i else i) ≤ queueDebts q + 1
  | [], _ => Nat.zero_le _
  | j :: q, nodup => by
    obtain ⟨fresh, nodup⟩ := List.nodup_cons.1 nodup
    by_cases slot : j.slot = n
    · have others : (q.map fun i => if i.slot = n then f i else i) = q :=
        (List.map_congr_left (g := id) fun i hi =>
          if_neg fun e => fresh (List.mem_map.2 ⟨i, hi, e.trans slot.symm⟩)).trans (List.map_id q)
      have one := h j
      rw [List.map_cons, others, if_pos slot]
      simp only [queueDebts, List.map_cons, List.sum_cons]
      omega
    · have rest := queueDebts_change h n nodup
      rw [List.map_cons, if_neg slot]
      simp only [queueDebts, List.map_cons, List.sum_cons] at rest ⊢
      omega

section
variable {known : Prop} (s : State) {f : Frame}

theorem State.deferCancel_serves (j : Job) (tag : Byte) (law : known → PoolLaw s) :
    Serves known 1 s (s.deferCancel j tag) := by
  refine ⟨rfl, rfl, fun k => ?_⟩
  have defers (i : Job) : Job.debts { i with cancelTag := some tag } ≤ i.debts + 1 := by
    show i.owedTag.toList.length + 1 ≤ i.owedTag.toList.length + i.cancelTag.toList.length + 1
    omega
  have less := queueDebts_change defers j.slot ((law k).queue_slots j.branch)
  have change : (s.deferCancel j tag).load + queueDebts (s.branch j.branch).queue = s.load +
      queueDebts ((s.branch j.branch).queue.map fun i => if i.slot = j.slot then { i with cancelTag := some tag } else i) :=
    s.setBranch_load ..
  omega

theorem State.setPendingReset_serves (b : BranchId) (tag : Byte) :
    Serves known 1 s (s.setPendingReset b (some tag)) := by
  refine ⟨rfl, rfl, fun _ => ?_⟩
  have resets : (∑ k : BranchId, ((s.setPendingReset b (some tag)).pendingReset k).toList.length) +
      (s.pendingReset b).toList.length = (∑ k : BranchId, (s.pendingReset k).toList.length) +
      ((s.setPendingReset b (some tag)).pendingReset b).toList.length :=
    sum_change b (f := fun k => (s.pendingReset k).toList.length)
      (g := fun k => ((s.setPendingReset b (some tag)).pendingReset k).toList.length) fun k hk => by
        rw [State.pendingReset_setPendingReset, if_neg (Ne.symm hk)]
  simp only [State.pendingReset_setPendingReset_self, Option.toList_some, List.length_singleton] at resets
  simp only [State.load_eq, State.setPendingReset_replies, State.setPendingReset_branch,
    State.setPendingReset_pendingClose, State.setPendingReset_pendingRestart]
  omega

theorem State.branchReset_serves (b : BranchId) (other : ∀ p, (f.replyWith p).isRestartReply = false) :
    Serves known 1 s (s.branchReset f b) := by
  unfold State.branchReset
  split
  · exact s.pushReply_serves (other _)
  · exact (s.setPendingReset_serves b f.tag).keeps (State.enterRecovery_keepsPool ..)
  · exact (s.setPendingReset_serves b f.tag).keeps (State.enterRecovery_keepsPool ..)
  all_goals exact s.pushReply_serves (other _)

theorem State.broadcast_serves (x : BroadcastForm) (other : ∀ p, (f.replyWith p).isRestartReply = false) :
    Serves known 1 s (s.broadcast f x) := by
  unfold State.broadcast
  split
  · exact s.pushReply_serves (other _)
  · split
    · exact s.pushReply_serves (other _)
    · exact s.acceptJob_serves rfl

theorem State.acceptOwed_serves (tag : Byte) (x : XferForm) (c : RouteConfig) (slot : SlotId) :
    Serves known 1 s (s.acceptOwed tag x c slot) :=
  (s.setRoute_keepsPool x.route _).serving (State.acceptJob_serves _ rfl)

variable (other : ∀ p, (f.replyWith p).isRestartReply = false)
include other

theorem State.answer_serves (payload : List Byte) : Serves known 1 s (s.answer f payload) :=
  s.pushReply_serves (other payload)

theorem State.acceptPosted_serves (x : XferForm) (c : RouteConfig) (slot : SlotId) :
    Serves known 1 s (s.acceptPosted f x c slot) := by
  have numbered := s.setRoute_keepsPool x.route
    { s.route x.route with nextPost := nextNumber (s.route x.route).nextPost }
  have answered := numbered.serving (State.answer_serves (known := known) _ other
    (Status.code .posted :: bytes16 (s.route x.route).nextPost))
  exact (answered.keeps (State.setRoute_keepsPool _ x.route _)).trans (n := 0) (State.acceptJob_serves _ rfl)

theorem State.xfer_serves (x : XferForm) : Serves known 1 s (s.xfer f x) := by
  unfold State.xfer
  split
  · exact s.answer_serves other _
  · exact s.answer_serves other _
  · exact s.answer_serves other _
  · split
    · exact s.acceptPosted_serves other ..
    · exact s.acceptOwed_serves ..

theorem State.cancel_serves (atBoundary : Bool) (target : Byte) (law : known → PoolLaw s) :
    Serves known 1 s (s.cancel atBoundary f target) := by
  have ends (j : Job) (found : s.owedJob target = some j) : Serves known 1 s
      (((s.endJob j.withoutProgress .cancelled).answerCancel f target .ok).selectIfIdle j.branch) := by
    have ended : Settles known s (s.endJob j.withoutProgress .cancelled) :=
      s.endJob_settles j.withoutProgress _ law fun k =>
        ((law k).holds (List.mem_of_find?_eq_some found)).congr rfl
    exact (ended.serves.trans (State.answer_serves _ other _)).keeps (State.selectIfIdle_keepsPool ..)
  unfold State.cancel
  split
  · exact s.answer_serves other _
  · next j found =>
    split
    · exact ends j found
    · exact ends j found
    · exact (s.deferCancel_serves j f.tag law).keeps (State.makeEnding_keepsPool ..)
    all_goals exact s.answer_serves other _

theorem State.routeSet_serves (form : RouteId × RouteConfig) : Serves known 1 s (s.routeSet f form) := by
  unfold State.routeSet
  split
  · exact s.answer_serves other _
  · have configured : Serves known 0 s (s.configureRoute form.1 form.2) := ⟨rfl, rfl, fun _ => Nat.le_refl _⟩
    exact configured.trans (State.answer_serves _ other _)

theorem State.routeClear_serves (r : RouteId) : Serves known 1 s (s.routeClear f r) := by
  unfold State.routeClear
  split
  · exact s.answer_serves other _
  · exact (s.setRoute_keepsPool r _).serving (State.answer_serves _ other _)

theorem State.holdRelease_serves (r : RouteId) : Serves known 1 s (s.holdRelease f r) := by
  unfold State.holdRelease
  split
  · exact s.answer_serves other _
  · exact (s.setRoute_keepsPool r _).serving (State.answer_serves _ other _)

theorem State.presenceReset_serves (r : RouteId) : Serves known 1 s (s.presenceReset f r) := by
  unfold State.presenceReset
  split
  · exact (s.resetPresence_keepsPool r).serving (State.answer_serves _ other _)
  · exact s.answer_serves other _

theorem State.branchSet_serves (form : BranchId × BranchConfig) : Serves known 1 s (s.branchSet f form) := by
  unfold State.branchSet
  simp only
  split
  · have set := s.setBranch_keepsPool form.1 (v := { s.branch form.1 with
      config := form.2
      engine := (s.branch form.1).engine.afterBranchSet form.2.enabled }) rfl
    exact set.serving (State.answer_serves _ other _)
  · exact s.answer_serves other _

theorem State.watchSet_serves (form : WatchId × WatchConfig) : Serves known 1 s (s.watchSet f form) := by
  unfold State.watchSet
  simp only
  split
  · exact s.answer_serves other _
  · split
    · exact s.answer_serves other _
    · have set : Serves known 0 s ((s.setWatch form.1 ((s.watch form.1).configure form.2)).sealChanges (· == form.1)) :=
        ⟨rfl, rfl, fun _ => Nat.le_refl _⟩
      exact set.trans (State.answer_serves _ other _)

theorem State.watchClear_serves (w : WatchId) : Serves known 1 s (s.watchClear f w) := by
  unfold State.watchClear
  simp only
  split
  · exact s.answer_serves other _
  · split
    · exact s.answer_serves other _
    · have set : Serves known 0 s ((s.setWatch w (s.watch w).cleared).sealChanges (· == w)) :=
        ⟨rfl, rfl, fun _ => Nat.le_refl _⟩
      exact set.trans (State.answer_serves _ other _)

end

/-! ### The dispatcher -/

/-- What a request command other than OPEN, CLOSE and RESTART may do: nothing, or one more reply with the intake open; and
outside OPEN it leaves the pool and the watches alone. -/
inductive Requested (known : Prop) (s t : State) : Prop
  | nothing (h : t = s)
  | taken (intake : s.intakeOpen = true) (serves : Serves known 1 s t)
      (session : t.session = .opened ∨ t.jobs = s.jobs ∧ t.watches = s.watches)

/-- A request that the session check passes comes in OPEN, if its kind needs OPEN. -/
theorem sessionRefusal_none {k : Kind} {x : Session} (needs : (sessionRefusal k .closed).isSome = true)
    (h : sessionRefusal k x = none) : x = .opened := by
  cases k <;> simp_all [sessionRefusal]

theorem sessionRefusal_ne_ok (k : Kind) (x : Session) : sessionRefusal k x ≠ some .ok := by
  cases k <;> cases x <;> decide

theorem State.check_error {α : Type} {s : State} {k : Kind} {form : List Byte → Option α} {f : Frame} {st : Status}
    (h : s.check k form f = .error st) : st ≠ .ok := by
  rintro rfl
  unfold State.check at h
  split at h
  · cases h
  · split at h
    · next y hy =>
      cases h
      exact sessionRefusal_ne_ok _ _ hy
    · split at h
      · cases h
      · split at h <;> cases h

theorem State.check_session {α : Type} {s : State} {k : Kind} {form : List Byte → Option α} {f : Frame} {a : α}
    (h : s.check k form f = .ok a) : sessionRefusal k s.session = none := by
  unfold State.check at h
  split at h
  · cases h
  · split at h
    · cases h
    · assumption

/-- Taking the frame, and being done with it, makes no reply and owes none. -/
theorem Serves.around {known : Prop} {n : Nat} {s u : State} {f : Frame} {rest : List Frame}
    (h : Serves known n (s.taken f rest) u) : Serves known n s u.endTake := ⟨h.closing, h.restarts, h.load⟩

theorem Requested.refused {known : Prop} {s : State} (intake : s.intakeOpen = true) (f : Frame) (rest : List Frame)
    {st : Status} (h : st ≠ .ok) : Requested known s ((s.taken f rest).refuse f st).endTake :=
  .taken intake (Serves.around ((s.taken f rest).pushReply_serves (refusal_not_restart f h))) (.inr ⟨rfl, rfl⟩)

/-- A request of a kind that needs OPEN. -/
theorem State.request_needsOpen {known : Prop} {α : Type} (s : State) {k : Kind} (form : List Byte → Option α)
    {act : State → Frame → α → State} (law : known → PoolLaw s)
    (needs : (sessionRefusal k .closed).isSome = true) (other : k ≠ .restart)
    (serves : ∀ t f a, (known → PoolLaw t) → (∀ p, (f.replyWith p).isRestartReply = false) →
      Serves known 1 t (act t f a)) : Requested known s (s.request k form act) := by
  rcases s.request_cases k form act with h | ⟨f, rest, -, intake, kind, ⟨st, failed, h⟩ | ⟨a, passed, h⟩⟩
  · exact .nothing h
  · rw [h]
    exact .refused intake f rest (State.check_error failed)
  · have acts := serves (s.taken f rest) f a (fun x => (law x).of_identities fun _ => .refl _)
      (replyWith_not_restart kind other)
    have session : (act (s.taken f rest) f a).session = (s.taken f rest).session := congrArg Prod.fst acts.closing
    rw [h]
    exact .taken intake acts.around (.inl (session.trans (sessionRefusal_none needs (State.check_session passed))))

/-- A request that is answered with what the part holds, in any session. -/
theorem State.request_answered {known : Prop} {α : Type} (s : State) {k : Kind} (form : List Byte → Option α)
    {act : State → Frame → α → State} (other : k ≠ .restart)
    (answers : ∀ t f a, (∀ p, (f.replyWith p).isRestartReply = false) →
      Serves known 1 t (act t f a) ∧ (act t f a).jobs = t.jobs ∧ (act t f a).watches = t.watches) :
    Requested known s (s.request k form act) := by
  rcases s.request_cases k form act with h | ⟨f, rest, -, intake, kind, ⟨st, failed, h⟩ | ⟨a, -, h⟩⟩
  · exact .nothing h
  · rw [h]
    exact .refused intake f rest (State.check_error failed)
  · obtain ⟨acts, jobs, watches⟩ := answers (s.taken f rest) f a (replyWith_not_restart kind other)
    rw [h]
    exact .taken intake acts.around (.inr ⟨jobs, watches⟩)

theorem requestOfUnknownKind_requested {known : Prop} (s : State) :
    ∃ t, execRequestOfUnknownKind s = .next t ∧ Requested known s t := by
  unfold execRequestOfUnknownKind State.take
  cases head : s.rxQueue with
  | nil => exact ⟨s, rfl, .nothing rfl⟩
  | cons f rest =>
    by_cases taken : (s.intakeOpen && !knownKind f.kind) = true
    · have intake : s.intakeOpen = true := (Bool.and_eq_true_iff.1 taken).1
      simp only [taken, if_true]
      exact ⟨_, rfl, .refused intake f rest (by decide)⟩
    · simp only [taken]
      exact ⟨s, rfl, .nothing rfl⟩

/-- The request commands other than OPEN, CLOSE and RESTART. -/
def ofTheRequests : Instr → Bool
  | .requestOfUnknownKind | .hello | .status | .credit | .routeSet | .routeGet | .routeClear | .holdRelease => true
  | .presenceReset | .branchSet | .branchGet | .branchReset | .xfer | .broadcast | .cancel _ => true
  | .watchSet | .watchGet | .watchClear => true
  | _ => false

theorem exec_requested {known : Prop} {c : Instr} {s : State} (h : ofTheRequests c = true) (law : known → PoolLaw s) :
    ∃ t, exec c s = .next t ∧ Requested known s t := by
  have needsOpen {α : Type} {k : Kind} (form : List Byte → Option α) {act : State → Frame → α → State}
      (serves : ∀ t f a, (known → PoolLaw t) → (∀ p, (f.replyWith p).isRestartReply = false) →
        Serves known 1 t (act t f a))
      (needs : (sessionRefusal k .closed).isSome = true) (other : k ≠ .restart) :
      ∃ t, (.next (s.request k form act) : Answer) = .next t ∧ Requested known s t :=
    ⟨_, rfl, s.request_needsOpen form law needs other serves⟩
  cases c with
  | requestOfUnknownKind => exact requestOfUnknownKind_requested s
  | hello =>
    exact ⟨_, rfl, s.request_answered readEmpty (by decide) fun t f _ other => ⟨t.answer_serves other _, rfl, rfl⟩⟩
  | status =>
    refine ⟨_, rfl, s.request_answered readStatus (by decide) fun t f clear other => ⟨?_, rfl, rfl⟩⟩
    have set : Serves known 0 t { t with counters := if clear then LinkCounters.zero else t.counters } :=
      ⟨rfl, rfl, fun _ => Nat.le_refl _⟩
    exact set.trans (State.answer_serves _ other _)
  | credit =>
    refine needsOpen readCredit (fun t f amount _ other => ?_) rfl (by decide)
    have set : Serves known 0 t (t.setCredits (min (t.credits + amount) Config.creditCap)) :=
      ⟨rfl, rfl, fun _ => Nat.le_refl _⟩
    exact set.trans (State.answer_serves _ other _)
  | routeSet => exact needsOpen readRouteSet (fun t f form _ other => t.routeSet_serves other form) rfl (by decide)
  | routeGet => exact needsOpen readRoute (fun t f r _ other => t.answer_serves other _) rfl (by decide)
  | routeClear => exact needsOpen readRoute (fun t f r _ other => t.routeClear_serves other r) rfl (by decide)
  | holdRelease => exact needsOpen readRoute (fun t f r _ other => t.holdRelease_serves other r) rfl (by decide)
  | presenceReset => exact needsOpen readRoute (fun t f r _ other => t.presenceReset_serves other r) rfl (by decide)
  | branchSet => exact needsOpen readBranchSet (fun t f form _ other => t.branchSet_serves other form) rfl (by decide)
  | branchGet => exact needsOpen readBranch (fun t f b _ other => t.answer_serves other _) rfl (by decide)
  | branchReset => exact needsOpen readBranch (fun t f b _ other => t.branchReset_serves b other) rfl (by decide)
  | xfer => exact needsOpen readXfer (fun t f x _ other => t.xfer_serves other x) rfl (by decide)
  | broadcast => exact needsOpen readBroadcast (fun t f x _ other => t.broadcast_serves x other) rfl (by decide)
  | cancel atBoundary =>
    exact needsOpen readCancel (fun t f target pool other => t.cancel_serves other atBoundary target pool) rfl (by decide)
  | watchSet => exact needsOpen readWatchSet (fun t f form _ other => t.watchSet_serves other form) rfl (by decide)
  | watchGet => exact needsOpen readWatch (fun t f w _ other => t.answer_serves other _) rfl (by decide)
  | watchClear => exact needsOpen readWatch (fun t f w _ other => t.watchClear_serves other w) rfl (by decide)
  | _ => cases h

end Sys2Proof.Machine
end

section
/-! SUPPORT. The close procedure, and the two laws of the session under it (R18, R24, R29 to R34). -/

namespace Sys2Proof.Machine

/-! ### The close procedure -/

/-- The state at the begin of the close procedure, before any job ends: the session CLOSING, the counts 0 and the watches
disarmed (R30). -/
def State.closeBegun (s : State) : State :=
  State.enterSession
    { s with cancelledJobs := 0, discardedPosts := 0, watches := mapTable Watch.disarmed s.watches } .closing

/-- A CLOSE is pending, and the intake stopped (R29). -/
def State.closePending (s : State) (tag : Byte) : State := { s with pendingClose := some tag, intakeStopped := true }

/-- A RESTART is pending, and the intake stopped (R34). -/
def State.restartPending (s : State) (tag : Byte) : State :=
  { s with pendingRestart := some tag, intakeStopped := true }

theorem State.close_eq (s : State) (tag : Byte) (boundary : List BranchId) :
    s.close tag boundary = ((s.closePending tag).beginClose boundary).testClose := rfl

theorem State.restartTaken_opened {s : State} (opened : s.session = .opened) (tag : Byte) (boundary : List BranchId) :
    s.restartTaken tag boundary = ((s.restartPending tag).beginClose boundary).testClose := if_pos opened

theorem State.restartTaken_other {s : State} (other : s.session ≠ .opened) (tag : Byte) (boundary : List BranchId) :
    s.restartTaken tag boundary =
      State.pushReply { s with pendingRestart := none, intakeStopped := true } (restartReply tag) := if_neg other

theorem State.beginClose_eq (s : State) (boundary : List BranchId) :
    s.beginClose boundary =
      let t := (s.closeBegun.jobs.filter fun j => !j.onWires).foldl closeRemoves s.closeBegun
      (t.jobs.filter fun j => decide (j.state = .active)).foldl
        (fun u j => u.makeEnding j .close (boundary.contains j.branch)) t := rfl

theorem State.closeBegun_armed (s : State) (w : WatchId) : (s.closeBegun.watch w).armed = false :=
  congrArg Watch.armed (mapTable_getElem Watch.disarmed s.watches w.val w.isLt)

theorem closeRemoves_settles {known : Prop} (s : State) (j : Job) (held : known → s.Holds j) :
    Settles known s (closeRemoves s j) := by
  unfold closeRemoves
  split
  · exact (s.removeJob_settles j held).keeps (State.countDiscards_keepsPool ..)
  · exact (s.deliver_settles j.withoutProgress _ fun k => (held k).congr rfl).keeps (State.countCancelled_keepsPool _)
  · exact s.removeJob_settles j held

theorem closeRemoves_loses (s : State) (j : Job) : s.Loses j (closeRemoves s j) := by
  unfold closeRemoves
  split
  · exact s.removeJob_loses j
  · exact s.deliver_loses j.withoutProgress _
  · exact s.removeJob_loses j

/-- After its begin the close procedure ends the jobs that wait and makes those ACTIVE ENDING. -/
theorem State.beginClose_settles {known : Prop} (s : State) (boundary : List BranchId) (law : known → PoolLaw s) :
    Settles known s.closeBegun (s.beginClose boundary) := by
  have removed : Settles known s.closeBegun
      ((s.closeBegun.jobs.filter fun j => !j.onWires).foldl closeRemoves s.closeBegun) :=
    .foldl closeRemoves_settles (fun t i j other held => (closeRemoves_loses t j).holds other held) _ _ fun k =>
      PoolLaw.picked ((law k).of_identities fun _ => .refl _) _
  rw [State.beginClose_eq]
  exact removed.keeps (.foldl (fun u j => u.makeEnding_keepsPool j _ _) _ _)

/-- What the completion of the close procedure does (R33, R34). -/
theorem State.completeClose_eq (s : State) : s.completeClose = { s with
    session := .closed
    pendingClose := none
    pendingRestart := none
    intakeStopped := s.intakeStopped && s.pendingClose.isNone
    replies := s.replies ++ (s.pendingClose.map fun tag => closeReply tag s.cancelledJobs s.discardedPosts).toList ++
      (s.pendingRestart.map restartReply).toList
    routes := mapTable Route.unheld s.routes
    watches := mapTable Watch.forgotten s.watches
    notices := []
    credits := 0
    dropped := 0
    attnLow := false } := by
  unfold State.completeClose
  cases s.pendingClose <;> cases s.pendingRestart <;>
    simp [State.emptyNotices, State.enterSession, State.driveAttn, State.pushReply]

theorem restartReply_isRestart (tag : Byte) : (restartReply tag).isRestartReply = true := rfl

theorem State.closeSettled_iff (s : State) :
    s.closeSettled = true ↔ s.jobs = [] ∧ ∀ b : BranchId, s.pendingReset b = none := by
  simp [State.closeSettled, State.pendingResets_toList]

theorem State.testClose_settled {s : State} (jobs : s.jobs = []) (resets : ∀ b : BranchId, s.pendingReset b = none) :
    s.testClose = s.completeClose := if_pos (s.closeSettled_iff.2 ⟨jobs, resets⟩)

theorem State.testClose_waits {s : State} (h : s.jobs ≠ [] ∨ ∃ b : BranchId, s.pendingReset b ≠ none) :
    s.testClose = s := by
  refine if_neg fun settled => ?_
  obtain ⟨jobs, resets⟩ := s.closeSettled_iff.1 settled
  rcases h with h | ⟨b, h⟩
  · exact h jobs
  · exact h (resets b)

theorem State.completeClose_load (s : State) : s.completeClose.load ≤ s.load := by
  rw [State.completeClose_eq]
  show (_ ++ _ ++ _ : List Frame).length + ((s.jobs.flatMap _ ++ [] ++ [] ++ _ : List Byte).length) ≤
    s.replies.length + (s.jobs.flatMap _ ++ _ ++ _ ++ _ : List Byte).length
  cases s.pendingClose <;> cases s.pendingRestart <;> simp <;> omega

theorem State.testClose_load (s : State) : s.testClose.load ≤ s.load := by
  unfold State.testClose
  split
  · exact s.completeClose_load
  · exact Nat.le_refl _

/-! ### The laws of the session -/

/-- The law of the session speaks of the session, of which watches are armed, and of whether the pool is empty. -/
theorem SessionLaw.congr {s t : State} (law : SessionLaw s) (session : t.session = s.session)
    (armed : ∀ w, (t.watch w).armed = (s.watch w).armed) (empty : s.jobs = [] → t.jobs = []) : SessionLaw t :=
  ⟨fun h w => (armed w).trans (law.armed (session ▸ h) w), fun h => empty (law.empty (session ▸ h))⟩

theorem Settles.jobs_nil {known : Prop} {s t : State} (h : Settles known s t) (empty : s.jobs = []) : t.jobs = [] := by
  rw [State.jobs_eq_nil] at empty ⊢
  intro b
  have none : s.identities b = [] := congrArg (List.map Job.identity) (empty b)
  exact List.map_eq_nil_iff.1 (List.sublist_nil.1 (none ▸ h.queues b))

theorem SessionLaw.settles {known : Prop} {s t : State} (law : SessionLaw s) (h : Settles known s t) : SessionLaw t :=
  law.congr (congrArg Prod.fst (State.closing_of_rest h.rest)) h.armed h.jobs_nil

/-- The law of the RESTART reply speaks of the session's records and of the RESTART replies on their way. -/
theorem RestartLaw.congr {s t : State} (law : RestartLaw s) (closing : t.closing = s.closing)
    (restarts : t.replies.countP Frame.isRestartReply = s.replies.countP Frame.isRestartReply) : RestartLaw t := by
  simp only [State.closing, Prod.mk.injEq] at closing
  obtain ⟨session, close, restart, stopped, sent, sending⟩ := closing
  have answers : t.restartAnswers = s.restartAnswers := by
    simp only [State.restartAnswers, State.sendingRestartReply, restarts, sent, sending]
  constructor
  all_goals simp only [answers, session, close, restart, stopped]
  exacts [law.one, law.answered, law.restart, law.close]

theorem RestartLaw.serves {known : Prop} {n : Nat} {s t : State} (law : RestartLaw s) (h : Serves known n s t) :
    RestartLaw t := law.congr h.closing h.restarts

/-- While the intake is not stopped no CLOSE and no RESTART is on its way (R19, R34). -/
theorem RestartLaw.none {s : State} (law : RestartLaw s) (intake : s.intakeStopped = false) :
    s.restartAnswers = 0 ∧ s.pendingClose = none ∧ s.pendingRestart = none := by
  have one := law.one
  refine ⟨?_, ?_, ?_⟩
  · by_contra answers
    have stopped := (law.answered (by omega)).2.1
    simp [intake] at stopped
  · by_contra pending
    have stopped := law.close pending
    simp [intake] at stopped
  · by_contra pending
    have stopped := (law.restart pending).1
    simp [intake] at stopped

/-- The two laws hold of a state with no RESTART reply on its way, one of the two records pending at most, intake stopped
meanwhile, and no watch armed. -/
structure ClosingLaws (s : State) : Prop where
  session : s.session = .closing
  armed : ∀ w, (s.watch w).armed = false
  answers : s.restartAnswers = 0
  restart : s.pendingRestart ≠ none → s.intakeStopped = true ∧ s.pendingClose = none
  close : s.pendingClose ≠ none → s.intakeStopped = true

theorem ClosingLaws.laws {s : State} (h : ClosingLaws s) : SessionLaw s ∧ RestartLaw s := by
  refine ⟨⟨fun _ => h.armed, fun closed => ?_⟩, ⟨by rw [h.answers]; exact Nat.zero_le _, fun one => ?_, h.restart, h.close⟩⟩
  · rw [h.session] at closed
    cases closed
  · rw [h.answers] at one
    cases one

/-- In CLOSING the two laws say this much. -/
theorem closingLaws_of_laws {s : State} (closing : s.session = .closing) (law : SessionLaw s) (restart : RestartLaw s) :
    ClosingLaws s := by
  refine ⟨closing, law.armed (by rw [closing]; decide), ?_, restart.restart, restart.close⟩
  by_contra answers
  have closed := (restart.answered (by have := restart.one; omega)).1
  rw [closing] at closed
  cases closed

/-- The begin of the close procedure, one of the two records having been made with the intake stopped. -/
theorem ClosingLaws.begin {s : State} (boundary : List BranchId) (answers : s.restartAnswers = 0)
    (restart : s.pendingRestart ≠ none → s.intakeStopped = true ∧ s.pendingClose = none)
    (close : s.pendingClose ≠ none → s.intakeStopped = true) : ClosingLaws (s.beginClose boundary) := by
  have h : Settles False s.closeBegun (s.beginClose boundary) := s.beginClose_settles boundary False.elim
  have records := State.closing_of_rest h.rest
  simp only [State.closing, Prod.mk.injEq] at records
  obtain ⟨session, pendingClose, pendingRestart, stopped, sent, sending⟩ := records
  refine ⟨session, fun w => (h.armed w).trans (s.closeBegun_armed w), ?_, ?_, ?_⟩
  · rw [← answers]
    simp only [State.restartAnswers, State.sendingRestartReply, h.restarts, sent, sending]
    rfl
  · rw [pendingRestart, pendingClose, stopped]
    exact restart
  · rw [pendingClose, stopped]
    exact close

/-- The completion queues one RESTART reply if a RESTART is pending, and none otherwise. -/
theorem ClosingLaws.complete {s : State} (h : ClosingLaws s) (jobs : s.jobs = []) :
    SessionLaw s.completeClose ∧ RestartLaw s.completeClose := by
  have armed : ∀ w, (s.completeClose.watch w).armed = false := fun w => by
    rw [State.completeClose_eq]
    exact (congrArg Watch.armed (mapTable_getElem Watch.forgotten s.watches w.val w.isLt)).trans (h.armed w)
  have answers : s.completeClose.restartAnswers = if s.pendingRestart = none then 0 else 1 := by
    have close : (s.pendingClose.map fun tag =>
        closeReply tag s.cancelledJobs s.discardedPosts).toList.countP Frame.isRestartReply = 0 := by
      cases s.pendingClose <;> rfl
    have restart : (s.pendingRestart.map restartReply).toList.countP Frame.isRestartReply =
        if s.pendingRestart = none then 0 else 1 := by
      cases s.pendingRestart <;> rfl
    have before := h.answers
    rw [State.completeClose_eq]
    simp only [State.restartAnswers, State.sendingRestartReply, List.countP_append, close, restart] at before ⊢
    omega
  refine ⟨⟨fun _ => armed, fun _ => ?_⟩, ?_⟩
  · rw [State.completeClose_eq]
    exact jobs
  · constructor
    · rw [answers]
      split <;> decide
    · intro one
      rw [answers] at one
      split at one
      · cases one
      · next pending =>
        obtain ⟨stopped, noClose⟩ := h.restart pending
        rw [State.completeClose_eq]
        exact ⟨rfl, by simp [stopped, noClose], rfl, rfl⟩
    all_goals
      rw [State.completeClose_eq]
      exact fun h => absurd rfl h

theorem ClosingLaws.test {s : State} (h : ClosingLaws s) : SessionLaw s.testClose ∧ RestartLaw s.testClose := by
  unfold State.testClose
  split
  · next settled => exact h.complete (s.closeSettled_iff.1 settled).1
  · exact h.laws

/-- CLOSE taken, with the intake open. -/
theorem close_laws {s : State} (restart : RestartLaw s) (intake : s.intakeStopped = false) (tag : Byte)
    (boundary : List BranchId) : SessionLaw (s.close tag boundary) ∧ RestartLaw (s.close tag boundary) := by
  obtain ⟨answers, -, noRestart⟩ := restart.none intake
  rw [State.close_eq]
  exact (ClosingLaws.begin (s := s.closePending tag) boundary answers (fun pending => absurd noRestart pending)
    fun _ => rfl).test

/-- RESTART taken, with the intake open: in CLOSED its reply is made at once (R34). -/
theorem restartTaken_laws {s : State} (law : SessionLaw s) (restart : RestartLaw s) (intake : s.intakeStopped = false)
    (session : s.session ≠ .closing) (tag : Byte) (boundary : List BranchId) :
    SessionLaw (s.restartTaken tag boundary) ∧ RestartLaw (s.restartTaken tag boundary) := by
  obtain ⟨answers, noClose, -⟩ := restart.none intake
  by_cases opened : s.session = .opened
  · rw [State.restartTaken_opened opened]
    exact (ClosingLaws.begin (s := s.restartPending tag) boundary answers (fun _ => ⟨rfl, noClose⟩) fun _ => rfl).test
  · rw [State.restartTaken_other opened]
    have closed : s.session = .closed := by
      cases h : s.session with
      | closed => rfl
      | opened => exact absurd h opened
      | closing => exact absurd h session
    have one : State.restartAnswers (State.pushReply
        { s with pendingRestart := none, intakeStopped := true } (restartReply tag)) = 1 := by
      simp only [State.restartAnswers, State.sendingRestartReply] at answers ⊢
      simp [restartReply_isRestart]
      omega
    exact ⟨law.congr rfl (fun _ => rfl) id, one.le, fun _ => ⟨closed, rfl, noClose, rfl⟩, fun h => absurd rfl h,
      fun h => absurd noClose h⟩

end Sys2Proof.Machine
end

section
/-! SUPPORT. The laws of the session and of the replies under the link's own commands, and under every command. -/

namespace Sys2Proof.Machine

/-! ### The receiver -/

/-- The state with the receiver, the receive queue and the link counters blanked: what no byte that arrives changes. -/
def State.behindReceiver (s : State) : State :=
  { s with receiver := Receiver.hunting, rxQueue := [], counters := LinkCounters.zero }

theorem State.disposeFrame_behind (s : State) (f : Frame) : (s.disposeFrame f).behindReceiver = s.behindReceiver := by
  unfold State.disposeFrame
  split
  · rfl
  · split <;> rfl

theorem State.examine_behind (s : State) (skip : Nat) (bs : List Byte) :
    (s.examine skip bs).behindReceiver = s.behindReceiver := by
  fun_induction State.examine s skip bs with
  | case1 | case4 => rfl
  | case6 s bs f size _ ih => exact ih.trans (s.disposeFrame_behind f)
  | case2 _ _ _ _ ih | case3 _ _ _ ih | case5 _ _ _ ih | case7 _ _ _ _ ih => exact ih

theorem State.takeByte_behind (s : State) (b : Byte) : (s.takeByte b).behindReceiver = s.behindReceiver := by
  unfold State.takeByte
  split
  · split <;> rfl
  all_goals
    simp only
    split
    · rfl
    · rfl
    · exact State.examine_behind _ _ _
    · exact s.disposeFrame_behind _

theorem State.receive_behind (s : State) (b : Byte) : (s.receive b).behindReceiver = s.behindReceiver := by
  unfold State.receive
  split
  · exact State.takeByte_behind _ b
  · exact s.takeByte_behind b

/-- What only the receiver has changed serves, and leaves the pool and the watches alone. -/
theorem Serves.of_behind {known : Prop} {s t : State} (h : t.behindReceiver = s.behindReceiver) :
    Serves known 0 s t ∧ t.jobs = s.jobs ∧ t.watches = s.watches := by
  have k : ∀ {β : Type} (p : State → β), p t.behindReceiver = p s.behindReceiver := fun p => congrArg p h
  exact ⟨⟨k State.closing, k fun u => u.replies.countP Frame.isRestartReply, fun _ => (k State.load).le⟩, k State.jobs,
    k State.watches⟩

/-! ### The transmitter -/

theorem bootFrame_not_restart (o : BootOrigin) (powerOn : Bool) (speed : LinkSpeed) :
    (bootFrame o powerOn speed).isRestartReply = false := rfl

theorem notice_not_restart (n : Notice) : n.frame.isRestartReply = false := by
  cases h : n.body <;> rw [Frame.isRestartReply, Notice.frame, h] <;> rfl

/-- The transmitter's choice moves a reply from the queue to the line at most: what it owes does not rise, and no RESTART
reply is made or lost. -/
structure Transmits (s t : State) : Prop where
  session : t.session = s.session
  records : t.pendingClose = s.pendingClose ∧ t.pendingRestart = s.pendingRestart ∧ t.intakeStopped = s.intakeStopped
  tables : t.branches = s.branches ∧ t.watches = s.watches
  answers : t.restartAnswers = s.restartAnswers
  load : t.load ≤ s.load

theorem State.choose_transmits {s : State} (idle : s.transmitting = none) : Transmits s s.choose := by
  unfold State.choose
  split
  · next origin _ =>
    refine ⟨rfl, ⟨rfl, rfl, rfl⟩, ⟨rfl, rfl⟩, ?_, Nat.le_refl _⟩
    simp [State.restartAnswers, State.sendingRestartReply, idle, Frame.sent, bootFrame_not_restart]
  · split
    · next reply rest replies =>
      refine ⟨rfl, ⟨rfl, rfl, rfl⟩, ⟨rfl, rfl⟩, ?_, ?_⟩
      · simp only [State.restartAnswers, State.sendingRestartReply, idle, Frame.sent, replies, List.countP_cons]
        cases reply.isRestartReply <;> simp
      · show rest.length + s.owedTags.length ≤ s.replies.length + s.owedTags.length
        rw [replies, List.length_cons]
        omega
    · split
      · exact ⟨rfl, ⟨rfl, rfl, rfl⟩, ⟨rfl, rfl⟩, rfl, Nat.le_refl _⟩
      · next n rest notices =>
        split
        · refine ⟨rfl, ⟨rfl, rfl, rfl⟩, ⟨rfl, rfl⟩, ?_, Nat.le_refl _⟩
          simp [State.restartAnswers, State.sendingRestartReply, idle, State.startNotice, Frame.sent, State.driveAttn,
            notice_not_restart]
        · exact ⟨rfl, ⟨rfl, rfl, rfl⟩, ⟨rfl, rfl⟩, rfl, Nat.le_refl _⟩

/-- The report of a completed frame: a RESTART reply in transmission becomes one whose effects are to come (R14). -/
theorem frameTransmitted_answers {s : State} {x : Transmission} (one : s.restartAnswers ≤ 1)
    (sending : s.transmitting = some x) :
    State.restartAnswers { s with transmitting := none, restartSent := s.restartSent || x.frame.isRestartReply } =
      s.restartAnswers := by
  simp only [State.restartAnswers, State.sendingRestartReply, sending] at one ⊢
  revert one
  cases x.frame.isRestartReply <;> cases s.restartSent <;> intro one
  case true.true =>
    simp only [Bool.toNat_true] at one
    omega
  all_goals rfl

theorem RestartLaw.transmits {s t : State} (law : RestartLaw s) (session : t.session = s.session)
    (records : t.pendingClose = s.pendingClose ∧ t.pendingRestart = s.pendingRestart ∧
      t.intakeStopped = s.intakeStopped) (answers : t.restartAnswers = s.restartAnswers) : RestartLaw t := by
  obtain ⟨close, restart, stopped⟩ := records
  constructor
  all_goals simp only [answers, session, close, restart, stopped]
  exacts [law.one, law.answered, law.restart, law.close]

theorem SessionLaw.of_tables {s t : State} (law : SessionLaw s) (session : t.session = s.session)
    (tables : t.branches = s.branches ∧ t.watches = s.watches) : SessionLaw t :=
  law.congr session (fun w => by rw [State.watch, State.watch, tables.2])
    fun h => by rw [State.jobs, tables.1]; exact h

/-! ### The restart effects -/

/-- The state of the restart effects before the engines select (R17, R35). -/
def State.restarted (s : State) : State :=
  State.enterSession (State.emptyNotices { s with
    receiver := Receiver.hunting
    rxQueue := []
    counters := LinkCounters.zero
    bootPending := some .restartEffects
    taking := none
    pendingClose := none
    pendingRestart := none
    pendingResets := Vector.replicate 4 none
    intakeStopped := false
    restartSent := false
    cancelledJobs := 0
    discardedPosts := 0
    routes := mapTable Route.restarted s.routes
    branches := mapTable Branch.restarted s.branches
    watches := mapTable Watch.restarted s.watches }) .closed

theorem State.applyRestart_keepsPool (s : State) : KeepsPool s.restarted s.applyRestart :=
  .foldl State.selectIfIdle_keepsPool (List.finRange 4) s.restarted

theorem State.restarted_queue (s : State) (b : BranchId) : (s.restarted.branch b).queue = (s.branch b).queue :=
  (congrArg Branch.queue (mapTable_getElem Branch.restarted s.branches b.val b.isLt) :)

theorem State.applyRestart_load (s : State) : s.applyRestart.load ≤ s.load := by
  have resets : ∀ b : BranchId, s.restarted.pendingReset b = none := fun b => Vector.getElem_replicate _
  have records : s.restarted.replies = s.replies ∧ s.restarted.pendingClose = none ∧
    s.restarted.pendingRestart = none := ⟨rfl, rfl, rfl⟩
  rw [s.applyRestart_keepsPool.load, State.load_eq, State.load_eq]
  simp only [State.restarted_queue, resets, records, Option.toList_none, List.length_nil, Finset.sum_const_zero]
  omega

/-- With the report of the RESTART reply made, the restart effects leave no RESTART on its way (R35). -/
theorem applyRestart_laws {s : State} (sent : s.restartSent = true) (law : SessionLaw s) (restart : RestartLaw s) :
    SessionLaw s.applyRestart ∧ RestartLaw s.applyRestart := by
  have answers : s.restarted.restartAnswers = 0 := by
    have one := restart.one
    show s.replies.countP Frame.isRestartReply + s.sendingRestartReply.toNat + 0 = 0
    simp only [State.restartAnswers, sent, Bool.toNat_true] at one
    omega
  have closed : s.session = .closed := by
    refine (restart.answered (Nat.le_antisymm restart.one ?_)).1
    simp only [State.restartAnswers, sent, Bool.toNat_true]
    omega
  have jobs : s.restarted.jobs = [] := (State.jobs_congr s.restarted_queue).trans (law.empty closed)
  have armed : ∀ w, (s.restarted.watch w).armed = false := fun w =>
    congrArg Watch.armed (mapTable_getElem Watch.restarted s.watches w.val w.isLt)
  have before : SessionLaw s.restarted := ⟨fun _ => armed, fun _ => jobs⟩
  have none : RestartLaw s.restarted := by
    refine ⟨answers.le.trans (Nat.zero_le _), fun one => ?_, fun pending => absurd rfl pending,
      fun pending => absurd rfl pending⟩
    rw [answers] at one
    cases one
  have selects := s.applyRestart_keepsPool.settles (known := True)
  exact ⟨before.settles selects, none.serves selects.serves⟩

/-! ### Every command -/

theorem exec_openSession (s : State) : exec .openSession s = execOpenSession s := rfl

theorem exec_closeSession (boundary : List BranchId) (s : State) :
    exec (.closeSession boundary) s = execCloseSession boundary s := rfl

theorem exec_restart (boundary : List BranchId) (s : State) : exec (.restart boundary) s = execRestart boundary s := rfl

theorem exec_closeProcedureCompletes (s : State) :
    exec .closeProcedureCompletes s = execCloseProcedureCompletes s := rfl

theorem exec_watchCountdownExpires (w : WatchId) (s : State) :
    exec (.watchCountdownExpires w) s = execWatchCountdownExpires w s := rfl

/-- With the intake open, a request is taken while no CLOSE or RESTART is in progress, and with 31 replies waiting and
owed at most (R19). -/
theorem State.intakeOpen_facts {s : State} (h : s.intakeOpen = true) :
    s.session ≠ .closing ∧ s.intakeStopped = false ∧ s.load ≤ 31 := by
  simp only [State.intakeOpen, Bool.and_eq_true, Bool.not_eq_true', decide_eq_true_eq, bne_iff_ne] at h
  exact ⟨h.1.1.2, h.1.2, h.2⟩

end Sys2Proof.Machine
end

section
/-! SUPPORT. Every command keeps the law of the session and that of the replies (R18, R19, R24, R34). -/

namespace Sys2Proof.Machine

/-- The laws of the session under a request command other than OPEN, CLOSE and RESTART. -/
theorem Requested.laws {known : Prop} {s t : State} (h : Requested known s t) (law : SessionLaw s)
    (restart : RestartLaw s) : SessionLaw t ∧ RestartLaw t := by
  cases h with
  | nothing h => exact h ▸ ⟨law, restart⟩
  | taken intake serves session =>
    refine ⟨?_, restart.serves serves⟩
    rcases session with opened | ⟨jobs, watches⟩
    · exact ⟨fun h => absurd opened h, fun h => by rw [opened] at h; cases h⟩
    · exact law.congr (congrArg Prod.fst serves.closing) (fun w => by rw [State.watch, watches]; rfl) fun h => jobs.trans h

/-- A request that is refused, or is taken with the intake open and carried out. -/
theorem State.request_laws {α : Type} {s : State} {k : Kind} {form : List Byte → Option α}
    {act : State → Frame → α → State} (law : SessionLaw s) (restart : RestartLaw s)
    (acts : ∀ t f a, SessionLaw t → RestartLaw t → t.intakeStopped = false → t.session ≠ .closing →
      f.kind = k.code → sessionRefusal k t.session = none → SessionLaw (act t f a) ∧ RestartLaw (act t f a)) :
    SessionLaw (s.request k form act) ∧ RestartLaw (s.request k form act) := by
  rcases s.request_cases k form act with h | ⟨f, rest, -, intake, kind, ⟨st, failed, h⟩ | ⟨a, passed, h⟩⟩
  · exact h.symm ▸ ⟨law, restart⟩
  · exact h.symm ▸ (Requested.refused (known := False) intake f rest (State.check_error failed)).laws law restart
  · obtain ⟨session, stopped, -⟩ := State.intakeOpen_facts intake
    obtain ⟨law', restart'⟩ := acts (s.taken f rest) f a (law.congr rfl (fun _ => rfl) id) (restart.congr rfl rfl)
      stopped session kind (State.check_session passed)
    rw [h]
    exact ⟨law'.congr rfl (fun _ => rfl) id, restart'.congr rfl rfl⟩

/-- In OPEN the law of the session asks for nothing. -/
theorem sessionLaw_opened {s : State} (opened : s.session = .opened) : SessionLaw s :=
  ⟨fun h => absurd opened h, fun h => by rw [opened] at h; cases h⟩

/-- OPEN is taken with no CLOSE and no RESTART on its way, and makes no RESTART reply. -/
theorem open_laws {s : State} {f : Frame} (restart : RestartLaw s) (intake : s.intakeStopped = false)
    (kind : f.kind = Kind.openSession.code) (credits : Nat) (payload : List Byte) :
    SessionLaw ((s.open_ credits).answer f payload) ∧ RestartLaw ((s.open_ credits).answer f payload) := by
  obtain ⟨answers, noClose, noRestart⟩ := restart.none intake
  have reply := replyWith_not_restart kind (by decide) payload
  have none : ((s.open_ credits).answer f payload).restartAnswers = 0 := by
    rw [← answers]
    show (s.replies ++ [f.replyWith payload]).countP Frame.isRestartReply + _ + _ = _
    rw [List.countP_append, List.countP_singleton, reply]
    rfl
  refine ⟨sessionLaw_opened rfl, none.le.trans (Nat.zero_le _), fun one => ?_, fun pending => absurd noRestart pending,
    fun pending => absurd noClose pending⟩
  rw [none] at one
  cases one

theorem fullReset_laws (cause : ResetCause) (lspd : LinkSpeed) (lines : Vector Lines 4) (s : State) :
    ∃ t, exec (.fullReset cause lspd lines) s = .next t ∧ (SessionLaw t ∧ RestartLaw t) ∧ t.load = 0 := by
  refine ⟨_, exec_fullReset .., ?_⟩
  have queue : ∀ b : BranchId, ((mapTable Branch.reset lines)[b]).queue = [] := fun b =>
    (congrArg Branch.queue (mapTable_getElem Branch.reset lines b.val b.isLt) :)
  have resets : ∀ b : BranchId, State.reset.pendingReset b = none := fun b => Vector.getElem_replicate _
  obtain ⟨-, -, -, -, -, -, sessionLaw, restartLaw, -⟩ := lawsHoldAtReset
  refine ⟨⟨⟨fun _ => sessionLaw.armed (by decide), fun _ => State.jobs_eq_nil.2 queue⟩, restartLaw.congr rfl rfl⟩, ?_⟩
  rw [State.load_eq]
  show 0 + ((∑ b : BranchId, queueDebts ((mapTable Branch.reset lines)[b]).queue) + 0 + 0 +
    ∑ b : BranchId, (State.reset.pendingReset b).toList.length) = 0
  simp only [queue, resets]
  rfl

/-- Every command keeps the two laws of the session. -/
theorem exec_laws {c : Instr} {s t : State} (law : SessionLaw s) (restart : RestartLaw s) (h : exec c s = .next t) :
    SessionLaw t ∧ RestartLaw t := by
  by_cases branches : ofTheBranches c = true
  · obtain ⟨u, hu, settles⟩ := exec_settles (known := False) (s := s) branches False.elim
    cases hu.symm.trans h
    exact ⟨law.settles settles, restart.serves settles.serves⟩
  by_cases requests : ofTheRequests c = true
  · obtain ⟨u, hu, requested⟩ := exec_requested (known := False) (s := s) requests False.elim
    cases hu.symm.trans h
    exact requested.laws law restart
  have neither : (ofTheBranches c || ofTheRequests c) = false := by simp [branches, requests]
  have behind {u : State} (same : u.behindReceiver = s.behindReceiver) : SessionLaw u ∧ RestartLaw u := by
    obtain ⟨serves, jobs, watches⟩ := Serves.of_behind (known := False) same
    exact ⟨law.congr (congrArg Prod.fst serves.closing) (fun w => by rw [State.watch, watches]; rfl) fun e => jobs.trans e,
      restart.serves serves⟩
  cases c with
  | fullReset cause lspd lines =>
    obtain ⟨u, hu, laws, -⟩ := fullReset_laws cause lspd lines s
    cases hu.symm.trans h
    exact laws
  | byteArrives c =>
    rw [exec_byteArrives] at h
    cases h
    exact behind (s.receive_behind _)
  | gapIntervalExpires =>
    rw [exec_gapIntervalExpires, execGapIntervalExpires] at h
    split at h <;> cases h
    · exact ⟨law, restart⟩
    · split
      · exact behind rfl
      · exact ⟨law, restart⟩
  | transmitStart =>
    rw [exec_transmitStart, execTransmitStart] at h
    split at h <;> cases h
    · next idle =>
      obtain ⟨session, records, tables, answers, -⟩ := State.choose_transmits idle
      exact ⟨law.of_tables session tables, restart.transmits session records answers⟩
    · exact ⟨law, restart⟩
  | frameTransmitted =>
    rw [exec_frameTransmitted, execFrameTransmitted] at h
    split at h <;> cases h
    · exact ⟨law, restart⟩
    · next x sending =>
      exact ⟨law.of_tables rfl ⟨rfl, rfl⟩,
        restart.transmits rfl ⟨rfl, rfl, rfl⟩ (frameTransmitted_answers restart.one sending)⟩
  | restartEffects =>
    rw [exec_restartEffects, execRestartEffects] at h
    split at h <;> cases h
    · next sent => exact applyRestart_laws sent law restart
    · exact ⟨law, restart⟩
  | openSession =>
    rw [exec_openSession, execOpenSession] at h
    cases h
    exact State.request_laws law restart fun t f credits _ restart intake _ kind _ => open_laws restart intake kind ..
  | closeSession boundary =>
    rw [exec_closeSession, execCloseSession] at h
    cases h
    exact State.request_laws law restart fun t f _ _ restart intake _ _ _ => close_laws restart intake f.tag boundary
  | closeProcedureCompletes =>
    rw [exec_closeProcedureCompletes, execCloseProcedureCompletes] at h
    cases h
    split
    · next closing => exact (closingLaws_of_laws closing law restart).test
    · exact ⟨law, restart⟩
  | restart boundary =>
    rw [exec_restart, execRestart] at h
    cases h
    exact State.request_laws law restart fun t f _ law restart intake session _ _ =>
      restartTaken_laws law restart intake session f.tag boundary
  | watchCountdownExpires w =>
    rw [exec_watchCountdownExpires, execWatchCountdownExpires] at h
    split at h <;> cases h
    · exact ⟨law, restart⟩
    · next c config =>
      split
      · next expired =>
        have opened : s.session = .opened := by
          by_contra session
          have unarmed := law.armed session w
          rw [expired.1] at unarmed
          cases unarmed
        have serves := s.countdownExpires_serves (known := False) w c
        exact ⟨sessionLaw_opened ((congrArg Prod.fst serves.closing).trans opened), restart.serves serves⟩
      · exact ⟨law, restart⟩
  | _ => cases neither

/-! ### The replies waiting and owed under every command -/

theorem State.closePending_load (s : State) (tag : Byte) : (s.closePending tag).load ≤ s.load + 1 := by
  show s.replies.length + (s.jobs.flatMap _ ++ [tag] ++ s.pendingRestart.toList ++ s.pendingResets.toList.flatMap _ :
    List Byte).length ≤ s.replies.length + (s.jobs.flatMap _ ++ _ ++ _ ++ _ : List Byte).length + 1
  simp only [List.length_append, List.length_singleton]
  omega

theorem State.restartPending_load (s : State) (tag : Byte) : (s.restartPending tag).load ≤ s.load + 1 := by
  show s.replies.length + (s.jobs.flatMap _ ++ s.pendingClose.toList ++ [tag] ++ s.pendingResets.toList.flatMap _ :
    List Byte).length ≤ s.replies.length + (s.jobs.flatMap _ ++ _ ++ _ ++ _ : List Byte).length + 1
  simp only [List.length_append, List.length_singleton]
  omega

theorem State.begun_load {s : State} (law : PoolLaw s) (boundary : List BranchId) :
    ((s.beginClose boundary).testClose).load ≤ s.load :=
  (State.testClose_load _).trans ((s.beginClose_settles (known := True) boundary fun _ => law).load trivial)

theorem State.close_load (s : State) (tag : Byte) (boundary : List BranchId) (law : PoolLaw s) :
    (s.close tag boundary).load ≤ s.load + 1 :=
  (State.begun_load (s := s.closePending tag) (law.of_identities fun _ => .refl _) boundary).trans
    (s.closePending_load tag)

theorem State.restartTaken_load (s : State) (tag : Byte) (boundary : List BranchId) (law : PoolLaw s) :
    (s.restartTaken tag boundary).load ≤ s.load + 1 := by
  by_cases opened : s.session = .opened
  · rw [State.restartTaken_opened opened]
    exact (State.begun_load (s := s.restartPending tag) (law.of_identities fun _ => .refl _) boundary).trans
      (s.restartPending_load tag)
  · rw [State.restartTaken_other opened, State.pushReply_load]
    refine Nat.add_le_add_right ?_ 1
    show s.replies.length + (s.jobs.flatMap _ ++ _ ++ [] ++ _ : List Byte).length ≤
      s.replies.length + (s.jobs.flatMap _ ++ _ ++ _ ++ _ : List Byte).length
    simp only [List.length_append, List.length_nil]
    omega

/-- A request is taken with 31 replies waiting and owed at most, and adds one (R19). -/
theorem State.request_load {α : Type} {s : State} {k : Kind} {form : List Byte → Option α}
    {act : State → Frame → α → State} (law : PoolLaw s) (reply : s.load ≤ 32)
    (acts : ∀ t f a, PoolLaw t → (act t f a).load ≤ t.load + 1) : (s.request k form act).load ≤ 32 := by
  rcases s.request_cases k form act with h | ⟨f, rest, -, intake, -, ⟨st, -, h⟩ | ⟨a, -, h⟩⟩
  · exact h.symm ▸ reply
  all_goals
    obtain ⟨-, -, room⟩ := State.intakeOpen_facts intake
    have taken : (s.taken f rest).load = s.load := rfl
    rw [h]
  · show ((s.taken f rest).pushReply _).load ≤ 32
    rw [State.pushReply_load]
    omega
  · have one := acts (s.taken f rest) f a (law.of_identities fun _ => .refl _)
    show (act (s.taken f rest) f a).load ≤ 32
    omega

theorem Requested.load {s t : State} (h : Requested True s t) (reply : s.load ≤ 32) : t.load ≤ 32 := by
  cases h with
  | nothing h => exact h ▸ reply
  | taken intake serves _ =>
    have one := serves.load trivial
    obtain ⟨-, -, room⟩ := State.intakeOpen_facts intake
    omega

/-- Every command keeps the law of the replies. -/
theorem exec_load {c : Instr} {s t : State} (law : PoolLaw s) (reply : s.load ≤ 32) (h : exec c s = .next t) :
    t.load ≤ 32 := by
  by_cases branches : ofTheBranches c = true
  · obtain ⟨u, hu, settles⟩ := exec_settles (known := True) branches fun _ => law
    cases hu.symm.trans h
    exact (settles.load trivial).trans reply
  by_cases requests : ofTheRequests c = true
  · obtain ⟨u, hu, requested⟩ := exec_requested (known := True) requests fun _ => law
    cases hu.symm.trans h
    exact requested.load reply
  have neither : (ofTheBranches c || ofTheRequests c) = false := by simp [branches, requests]
  have behind {u : State} (same : u.behindReceiver = s.behindReceiver) : u.load ≤ 32 :=
    ((Serves.of_behind (known := True) same).1.load trivial).trans reply
  cases c with
  | fullReset cause lspd lines =>
    obtain ⟨u, hu, -, load⟩ := fullReset_laws cause lspd lines s
    cases hu.symm.trans h
    exact load.le.trans (Nat.zero_le _)
  | byteArrives c =>
    rw [exec_byteArrives] at h
    cases h
    exact behind (s.receive_behind _)
  | gapIntervalExpires =>
    rw [exec_gapIntervalExpires, execGapIntervalExpires] at h
    split at h <;> cases h
    · exact reply
    · split
      · exact behind rfl
      · exact reply
  | transmitStart =>
    rw [exec_transmitStart, execTransmitStart] at h
    split at h <;> cases h
    · next idle => exact (State.choose_transmits idle).load.trans reply
    · exact reply
  | frameTransmitted =>
    rw [exec_frameTransmitted, execFrameTransmitted] at h
    split at h <;> cases h <;> exact reply
  | restartEffects =>
    rw [exec_restartEffects, execRestartEffects] at h
    split at h <;> cases h
    · exact s.applyRestart_load.trans reply
    · exact reply
  | openSession =>
    rw [exec_openSession, execOpenSession] at h
    cases h
    exact State.request_load law reply fun t f credits _ => ((t.open_ credits).pushReply_load _).le
  | closeSession boundary =>
    rw [exec_closeSession, execCloseSession] at h
    cases h
    exact State.request_load law reply fun t f _ pool => t.close_load f.tag boundary pool
  | closeProcedureCompletes =>
    rw [exec_closeProcedureCompletes, execCloseProcedureCompletes] at h
    cases h
    split
    · exact s.testClose_load.trans reply
    · exact reply
  | restart boundary =>
    rw [exec_restart, execRestart] at h
    cases h
    exact State.request_load law reply fun t f _ pool => t.restartTaken_load f.tag boundary pool
  | watchCountdownExpires w =>
    rw [exec_watchCountdownExpires, execWatchCountdownExpires] at h
    split at h <;> cases h
    · exact reply
    · next c _ =>
      split
      · exact ((s.countdownExpires_serves (known := True) w c).load trivial).trans reply
      · exact reply
  | _ => cases neither

/-! ### Time -/

theorem State.tick_armed (s : State) (w : WatchId) : (s.tick.watch w).armed = (s.watch w).armed := by
  have ticked : s.tick.watch w = (s.watch w).tick := mapTable_getElem Watch.tick s.watches w.val w.isLt
  rw [ticked, Watch.tick]
  split <;> rfl

/-- Settles O57: a command keeps the two laws, and the passing of a ms arms no watch. -/
theorem everyStepKeepsTheSessionLaw : Obligations.EveryStepKeepsTheSessionLaw := by
  intro s t law restart h
  unfold step at h
  split at h
  next =>
    cases h
    exact ⟨law.congr rfl s.tick_armed id, restart.congr rfl rfl⟩
  next c rest _ =>
    have law' : SessionLaw { s with pending := rest } := law.congr rfl (fun _ => rfl) id
    exact exec_laws law' (restart.congr rfl rfl) h

/-- Settles O59: a request adds one reply with the intake open, and every other command adds none. -/
theorem everyStepKeepsTheReplyLaw : Obligations.EveryStepKeepsTheReplyLaw := by
  intro s t law reply h
  unfold step at h
  split at h
  next =>
    cases h
    exact reply
  next c rest _ =>
    have law' : PoolLaw { s with pending := rest } := law.of_identities fun _ => .refl _
    exact exec_load law' reply h

end Sys2Proof.Machine
end

section
/-! SUPPORT. The general checks one by one, and requests answered at the take (R20 to R25, R27, R36). -/

namespace Sys2Proof.Machine

/-! ### The general checks (R20) -/

section
variable {α : Type} {s : State} {k : Kind} {form : List Byte → Option α} {f : Frame}

theorem check_tagZero (tag : f.tag = 0) : s.check k form f = .error .badForm := if_pos tag

theorem check_refusedSession {st : Status} (tag : f.tag ≠ 0) (session : sessionRefusal k s.session = some st) :
    s.check k form f = .error st := by
  simp only [State.check, tag, if_false, session]

theorem check_badForm (tag : f.tag ≠ 0) (session : sessionRefusal k s.session = none)
    (malformed : form f.payload = none) : s.check k form f = .error .badForm := by
  simp only [State.check, tag, if_false, session, malformed]

theorem check_tagInUse {a : α} (tag : f.tag ≠ 0) (session : sessionRefusal k s.session = none)
    (formed : form f.payload = some a) (deferrable : k.deferrable = true) (used : f.tag ∈ s.owedTags) :
    s.check k form f = .error .tagInUse := by
  rw [State.check, if_neg tag]
  simp [session, formed, deferrable, used]

end

/-- The kinds whose reply may be owed (R25). -/
theorem deferrable_of_mem {k : Kind} (h : k ∈ [Kind.xfer, .broadcast, .cancel, .close, .restart, .branchReset]) :
    k.deferrable = true := by
  revert h
  cases k <;> decide

/-- Every request command is the dispatcher's, with the reader of its kind's form. -/
theorem exec_request {c : Instr} {k : Kind} (h : requestKind c = some k) : ∃ (α : Type) (form : List Byte → Option α)
    (act : State → Frame → α → State), (∀ s, exec c s = .next (s.request k form act)) ∧
      ∀ p, (form p).isSome = k.formed p := by
  cases c <;> cases h
  all_goals exact ⟨_, _, _, fun _ => rfl, fun _ => rfl⟩

theorem Kind.formed_none {α : Type} {k : Kind} {form : List Byte → Option α} (reads : ∀ p, (form p).isSome = k.formed p)
    {p : List Byte} (h : ¬ k.HasForm p) : form p = none := by
  rw [← Option.not_isSome_iff_eq_none, reads, k.formed_iff]
  exact h

theorem Kind.formed_some {α : Type} {k : Kind} {form : List Byte → Option α} (reads : ∀ p, (form p).isSome = k.formed p)
    {p : List Byte} (h : k.HasForm p) : ∃ a, form p = some a := by
  rw [← Option.isSome_iff_exists, reads, k.formed_iff]
  exact h

/-! ### Requests answered at the take -/

section
variable {s : State} {f : Frame} {rest : List Frame}

/-- A request that has been answered, and nothing else. -/
theorem ReadyToTake.answered (h : ReadyToTake s f rest) (payload : List Byte) :
    ((s.taken f rest).answer f payload).endTake = s.afterReply rest ⟨f.kind + 0x80, f.tag, payload⟩ := by
  simp [State.answer, State.endTake, State.taken, State.afterReply, State.pushReply, Frame.replyWith, h.free]

/-- A request that may come in any session, of a kind that is answered at once. -/
theorem Asks.act {α : Type} {k : Kind} (h : Asks s f rest k) (session : sessionRefusal k s.session = none)
    (fresh : k.deferrable = false ∨ f.tag ∉ s.owedTags) (form : List Byte → Option α) (act : State → Frame → α → State)
    {a : α} (formed : form f.payload = some a) : s.request k form act = (act (s.taken f rest) f a).endTake :=
  h.ready.accepted h.kind form act (check_ok h.tag session formed fresh)

end

/-- The flags of the 32 routes as one number are the number with those bits (R36). -/
theorem sum_two_pow_eq_ofBits {n : Nat} (p : Fin n → Bool) :
    ((List.finRange n).map fun r => if p r then 2 ^ r.val else 0).sum = Nat.ofBits p := by
  induction n with
  | zero => rfl
  | succ n ih =>
    have double : ∀ l : List (Fin n), (l.map fun r => if p r.succ then 2 ^ (r.val + 1) else 0).sum =
        2 * (l.map fun r => if (p ∘ Fin.succ) r then 2 ^ r.val else 0).sum := by
      intro l
      induction l with
      | nil => rfl
      | cons r l ih =>
        simp only [List.map_cons, List.sum_cons, ih, Function.comp]
        split <;> omega
    rw [List.finRange_succ, List.map_cons, List.sum_cons, List.map_map, Nat.ofBits_succ, ← ih]
    refine (Nat.add_comm ..).trans ?_
    refine congrArg₂ _ (double _) ?_
    cases p 0 <;> rfl

theorem State.heldFlags_eq (s : State) : s.heldFlags = Nat.ofBits fun r : RouteId => (s.route r).held :=
  sum_two_pow_eq_ofBits _

/-- Settles O11: each check on the frame taken, in the order of the dispatcher. -/
theorem generalChecksRefuseInOrder : Obligations.GeneralChecksRefuseInOrder := by
  refine ⟨fun c k f rest s request ready kind => ?_, fun f rest s ready low unknown => ?_⟩
  · obtain ⟨α, form, act, runs, reads⟩ := exec_request request
    have refused {st : Status} (h : (s.taken f rest).check k form f = .error st) :
        exec c s = .next (s.afterReply rest ⟨f.kind + 0x80, f.tag, [st.code]⟩) := by
      rw [runs, ready.refused kind form act h]
    have inOpen (h : s.session ≠ .closed) : s.session = .opened := by
      have := ready.notClosing
      cases e : s.session <;> simp_all
    refine ⟨fun tag => ?_, fun tag closed h1 h2 h3 h4 => ?_, fun tag opened isOpen => ?_,
      fun tag inClosed notOpen malformed => ?_, fun tag inClosed formed deferrable used => ?_⟩
    · rw [← tag]
      exact refused (check_tagZero tag)
    · refine refused (st := .noSession) (check_refusedSession tag ?_)
      show sessionRefusal k s.session = _
      rw [closed]
      cases k <;> simp_all [sessionRefusal]
    · refine refused (st := .sessionOpen) (check_refusedSession tag ?_)
      show sessionRefusal k s.session = _
      rw [opened, isOpen]
      rfl
    · refine refused (check_badForm tag ?_ (Kind.formed_none reads malformed))
      show sessionRefusal k s.session = none
      by_cases closed : s.session = .closed
      · rw [closed]
        rcases inClosed closed with rfl | rfl | rfl | rfl <;> rfl
      · have other := notOpen (inOpen closed)
        rw [inOpen closed]
        cases k <;> simp_all [sessionRefusal]
    · obtain ⟨a, formed⟩ := Kind.formed_some reads formed
      refine refused (check_tagInUse tag ?_ formed (deferrable_of_mem deferrable) used)
      show sessionRefusal k s.session = none
      by_cases closed : s.session = .closed
      · rw [closed, inClosed closed]
        rfl
      · rw [inOpen closed]
        simp only [List.mem_cons, List.not_mem_nil, or_false] at deferrable
        rcases deferrable with rfl | rfl | rfl | rfl | rfl | rfl <;> rfl
  · have notKnown : (!knownKind f.kind) = true := by
      rw [Bool.not_eq_true', Bool.eq_false_iff]
      intro known
      obtain ⟨k, -, code⟩ := List.any_eq_true.1 known
      rw [beq_iff_eq] at code
      refine unknown (code ▸ ?_)
      cases k <;> decide
    have taken := ready.take (wanted := fun k => !knownKind k) notKnown
    show execRequestOfUnknownKind s = _
    rw [execRequestOfUnknownKind, taken]
    exact congrArg _ (ready.answered [Status.code .badKind])

/-- Settles O12: the intake is closed, or no frame waits, so nothing is taken. -/
theorem closedIntakeTakesNothing : Obligations.ClosedIntakeTakesNothing := by
  intro c s request h
  have nothing : ∀ wanted, s.take wanted = none := by
    refine State.take_none ?_
    rcases h with empty | stopped | closing | full
    · exact .inl empty
    · exact .inr (by simp [State.intakeOpen, stopped])
    · exact .inr (by simp [State.intakeOpen, closing])
    · have room : ¬ s.replies.length + s.owedTags.length ≤ 31 := by omega
      exact .inr (by simp [State.intakeOpen, Config.intakeLimit, room])
  rcases request with request | rfl
  · obtain ⟨k, kind⟩ := Option.ne_none_iff_exists'.1 request
    obtain ⟨α, form, act, runs, -⟩ := exec_request kind
    rw [runs, State.request, nothing]
  · show execRequestOfUnknownKind s = _
    rw [execRequestOfUnknownKind, nothing]

/-- Settles O13: the request is taken and answered, and that is all. -/
theorem helloReportsTheIdentity : Obligations.HelloReportsTheIdentity := by
  intro f rest s asks payload
  have formed : readEmpty f.payload = some () := by rw [payload]; rfl
  have acts := asks.act rfl (.inl rfl) readEmpty (fun t f _ => t.answer f (helloPayload t)) formed
  have identity : helloPayload s = [0x00, 0x4C, 0x42, 0x04, 0x16, 0x03, 32, 16, 24, 20, 16, 64, 4, 32,
      if s.linkSpeed = .baud115200 then 0 else 1] := by
    rw [helloPayload]
    cases s.linkSpeed <;> rfl
  show Host.Outcome.next _ = _
  rw [acts, asks.ready.answered, asks.kind, ← identity]
  rfl

/-- Settles O14: the flags of the routes are the bits of one number. -/
theorem statusReportsTheTake : Obligations.StatusReportsTheTake := by
  intro f rest clear s asks payload flag
  refine ⟨s.heldFlags, ?_, fun r => ?_, ?_⟩
  · rw [State.heldFlags_eq]
    exact Nat.ofBits_lt_two_pow _
  · rw [State.heldFlags_eq, Nat.testBit_ofBits_lt _ _ r.isLt]
    rfl
  · have formed : readStatus f.payload = some (decide (clear = 1)) := by
      rw [payload]
      rcases flag with rfl | rfl <;> rfl
    have acts := asks.act rfl (.inl rfl) readStatus (fun t f clear =>
      State.answer { t with counters := if clear then LinkCounters.zero else t.counters } f (statusPayload t)) formed
    have session : s.session.code = if s.session = .opened then 1 else 0 := by
      cases s.session <;> rfl
    have branches : s.branches.toList.flatMap branchStatus =
        (List.finRange 4).flatMap fun b => [(s.branch b).engine.code, byte (s.branch b).queue.length] := by
      rw [s.branches_toList, List.flatMap_map]
      rfl
    have report : statusPayload s =
        [0x00, if s.session = .opened then 1 else 0, byte s.credits, byte s.notices.length, byte s.dropped,
            byte s.replies.length, byte s.owedTags.length, byte (s.jobs.countP Job.isHost),
            byte (s.jobs.countP Job.isPoll)] ++
          bytes16 (s.heldFlags / 65536) ++ bytes16 (s.heldFlags % 65536) ++
          ((List.finRange 4).flatMap fun b => [(s.branch b).engine.code, byte (s.branch b).queue.length]) ++
          bytes16 s.counters.crcErrors ++ bytes16 s.counters.gapErrors ++ bytes16 s.counters.overruns ++
          bytes16 s.counters.foreignFrames := by
      rw [statusPayload, branches, session, LinkCounters.bytes]
      simp only [List.append_assoc]
      rfl
    show Host.Outcome.next _ = _
    rw [acts, ← report]
    simp only [State.answer, State.endTake, State.taken, State.afterReply, State.pushReply, Frame.replyWith,
      asks.ready.free, asks.kind, decide_eq_true_eq]
    rfl

end Sys2Proof.Machine
end

section
/-! SUPPORT. OPEN, and the close procedure where nothing waits to be settled. -/

namespace Sys2Proof.Machine

theorem byte_of_toNat (b : Byte) : byte b.toNat = b := BitVec.ofNat_toNat 8 b

/-! ### The close procedure with an empty pool -/

/-- With no job in the pool the begin of the close procedure ends none. -/
theorem State.beginClose_empty {s : State} (jobs : s.jobs = []) (boundary : List BranchId) :
    s.beginClose boundary = s.closeBegun := by
  have begun : s.closeBegun.jobs = [] := jobs
  rw [State.beginClose_eq]
  simp only [begun, List.filter_nil, List.foldl_nil]

/-- CLOSE and RESTART with nothing to settle complete at the take. -/
theorem State.begun_completes {s : State} (jobs : s.jobs = []) (resets : ∀ b : BranchId, s.pendingReset b = none)
    (boundary : List BranchId) : (s.beginClose boundary).testClose = s.closeBegun.completeClose := by
  rw [State.beginClose_empty jobs]
  exact State.testClose_settled jobs resets

theorem State.completeClose_route (s : State) (r : RouteId) :
    s.completeClose.route r = { s.route r with hold := none } := by
  rw [State.completeClose_eq]
  exact mapTable_getElem Route.unheld s.routes r.val r.isLt

theorem State.completeClose_watch (s : State) (w : WatchId) :
    s.completeClose.watch w = { s.watch w with lastValue := none } := by
  rw [State.completeClose_eq]
  exact mapTable_getElem Watch.forgotten s.watches w.val w.isLt

theorem State.closeBegun_watch (s : State) (w : WatchId) :
    s.closeBegun.watch w = { s.watch w with armed := false, countdown := 0 } :=
  mapTable_getElem Watch.disarmed s.watches w.val w.isLt

/-- A route through the whole close procedure, nothing being settled. -/
theorem State.closed_route (s : State) (r : RouteId) :
    s.closeBegun.completeClose.route r = { s.route r with hold := none } := by
  rw [State.completeClose_route]
  rfl

theorem State.endTake_route (s : State) (r : RouteId) : s.endTake.route r = s.route r := rfl

theorem State.endTake_watch (s : State) (w : WatchId) : s.endTake.watch w = s.watch w := rfl

/-- A watch through the whole close procedure, nothing being settled. -/
theorem State.closed_watch (s : State) (w : WatchId) : s.closeBegun.completeClose.watch w =
    { s.watch w with armed := false, countdown := 0, lastValue := none } := by
  rw [State.completeClose_watch, State.closeBegun_watch]

/-- Settles O15: each watch goes through `Watch.opened`, and the rest of the state is read off the action. -/
theorem openStartsASession : Obligations.OpenStartsASession := by
  intro f rest credits s asks closed payload range
  have formed : readOpen f.payload = some credits.toNat := by
    rw [payload]
    exact readNumber_eq.2 ⟨⟨Nat.zero_le _, range⟩, rfl⟩
  have acts := asks.act (by rw [closed]; rfl) (.inl rfl) readOpen
    (fun t f credits => (t.open_ credits).answer f [Status.code .ok, byte credits]) formed
  have watch : ∀ w : WatchId, (mapTable Watch.opened s.watches)[w] = (s.watch w).opened := fun w =>
    mapTable_getElem ..
  refine ⟨_, congrArg Host.Outcome.next acts, ?_, fun w c config enabled => (watch w).trans ?_,
    fun w disabled => (watch w).trans ?_⟩
  · have attn : ((Session.opened == Session.opened) && !s.notices.isEmpty && credits.toNat == 0) =
        decide (s.notices ≠ [] ∧ credits = 0) := by
      have zero : (credits.toNat == 0) = decide (credits = 0) := by
        rw [Bool.eq_iff_iff]
        simp [← BitVec.toNat_inj]
      rw [zero]
      cases s.notices <;> simp
    rw [← attn]
    simp only [State.answer, State.endTake, State.taken, State.afterReply, State.pushReply, Frame.replyWith,
      asks.ready.free, asks.kind, byte_of_toNat]
    rfl
  · simp only [Watch.opened, config, enabled, if_true]
  · cases config : (s.watch w).config with
    | none => simp only [Watch.opened, config]
    | some c => simp [Watch.opened, config, disabled c config]

/-- Settles O16: the procedure completes at once where the pool is empty and no BRANCH_RESET is pending. -/
theorem closeCompletes : Obligations.CloseCompletes := by
  refine ⟨fun f rest boundary s asks payload jobs resets noRestart => ?_, fun s => ⟨?_, ?_, ?_⟩⟩
  · have formed : readEmpty f.payload = some () := by rw [payload]; rfl
    have acts := asks.act (by decide) readEmpty (fun t f _ => t.close f.tag boundary) formed
    have completes : (s.taken f rest).close f.tag boundary =
        ((s.taken f rest).closePending f.tag).closeBegun.completeClose :=
      (State.close_eq ..).trans
        (State.begun_completes (s := (s.taken f rest).closePending f.tag) jobs resets boundary)
    have answers : exec (.closeSession boundary) s =
        .next ((s.taken f rest).closePending f.tag).closeBegun.completeClose.endTake := by
      rw [exec_closeSession, execCloseSession, acts, completes]
    refine ⟨_, answers, ?_, fun r => ?_, fun w => ?_⟩
    rotate_left
    · rw [State.endTake_route, State.closed_route]
      rfl
    · rw [State.endTake_watch, State.closed_watch]
      rfl
    rw [State.completeClose_eq]
    simp [State.closePending, State.closeBegun, State.enterSession, State.driveAttn, State.endTake, State.taken,
      State.afterReply, asks.asks.ready.free, asks.asks.ready.intake, noRestart]
    rfl
  · intro tag closing jobs resets close noRestart
    have completes : exec .closeProcedureCompletes s = .next s.completeClose := by
      rw [exec_closeProcedureCompletes, execCloseProcedureCompletes, if_pos closing,
        State.testClose_settled jobs resets]
    refine ⟨_, completes, ?_, s.completeClose_route, s.completeClose_watch⟩
    rw [State.completeClose_eq]
    simp [close, noRestart]
    rfl
  · intro tag closing jobs resets noClose restart
    have completes : exec .closeProcedureCompletes s = .next s.completeClose := by
      rw [exec_closeProcedureCompletes, execCloseProcedureCompletes, if_pos closing,
        State.testClose_settled jobs resets]
    refine ⟨_, completes, ?_, s.completeClose_route, s.completeClose_watch⟩
    rw [State.completeClose_eq]
    simp [noClose, restart]
    rfl
  · intro h
    rw [exec_closeProcedureCompletes, execCloseProcedureCompletes]
    split
    · next closing =>
      rcases h with session | waits
      · exact absurd closing session
      · rw [State.testClose_waits waits]
    · rfl

/-- Settles O18: in CLOSED the RESTART reply is queued at the take; in OPEN, with nothing to settle, the procedure
completes. -/
theorem restartWithNothingToSettle : Obligations.RestartWithNothingToSettle := by
  intro f rest boundary s asks payload fresh
  have formed : readEmpty f.payload = some () := by rw [payload]; rfl
  have acts := asks.act rfl (.inr fresh) readEmpty (fun t f _ => t.restartTaken f.tag boundary) formed
  refine ⟨fun closed => ?_, fun opened jobs resets noClose => ?_⟩
  · have notOpen : (s.taken f rest).session ≠ .opened := by
      show s.session ≠ .opened
      rw [closed]
      decide
    rw [exec_restart, execRestart, acts, State.restartTaken_other notOpen]
    simp [State.taken, State.endTake, State.pushReply, State.afterReply, asks.ready.free]
    rfl
  · have completes : (s.taken f rest).restartTaken f.tag boundary =
        ((s.taken f rest).restartPending f.tag).closeBegun.completeClose :=
      (State.restartTaken_opened (s := s.taken f rest) opened f.tag boundary).trans
        (State.begun_completes (s := (s.taken f rest).restartPending f.tag) jobs resets boundary)
    have answers : exec (.restart boundary) s =
        .next ((s.taken f rest).restartPending f.tag).closeBegun.completeClose.endTake := by
      rw [exec_restart, execRestart, acts, completes]
    refine ⟨_, answers, ?_, fun r => ?_, fun w => ?_⟩
    rotate_left
    · rw [State.endTake_route, State.closed_route]
      rfl
    · rw [State.endTake_watch, State.closed_watch]
      rfl
    rw [State.completeClose_eq]
    simp [State.restartPending, State.closeBegun, State.enterSession, State.driveAttn, State.endTake, State.taken,
      State.afterReply, asks.ready.free, noClose]
    rfl

end Sys2Proof.Machine
end

section
/-! SUPPORT. Jobs that leave the pool without an outcome for their route: what becomes of the queues, the JOBS counts and
the watches (R30, R52, R75, R114). -/

namespace Sys2Proof.Machine

/-! ### One job leaves -/

/-- The job leaves its queue, and the JOBS of its route falls (R52, R64). -/
def State.leave (s : State) (j : Job) : State :=
  match j.route with
  | none => s.dropJob j
  | some r => (s.dropJob j).jobLeaves r

section
variable (s : State) (j : Job)

theorem State.leave_eq : s.leave j = { s with routes := (s.leave j).routes, branches := (s.leave j).branches } := by
  unfold State.leave
  split <;> rfl

theorem State.leave_route (r : RouteId) : (s.leave j).route r =
    { s.route r with jobs := (s.route r).jobs - if j.route = some r then 1 else 0 } := by
  unfold State.leave
  split
  · next none => simp [none, State.dropJob]
  · next q some =>
    rw [State.jobLeaves, State.route_setRoute, some]
    by_cases e : q = r
    · subst e
      simp [State.dropJob]
    · simp [e, State.dropJob]

theorem State.leave_loses : s.Loses j (s.leave j) := by
  intro k
  rw [← State.branch_dropJob]
  unfold State.leave
  split <;> rfl

theorem State.leave_watch (w : WatchId) : (s.leave j).watch w = s.watch w := by
  rw [State.leave_eq]
  rfl

theorem State.removeJob_host {tag : Byte} (h : j.origin = .host tag) : s.removeJob j = s.leave j := by
  cases route : j.route <;> simp only [State.removeJob, State.leave, h, route]

theorem State.removeJob_watch {w : WatchId} (h : j.origin = .watch w) : s.removeJob j = (s.leave j).clearPollOut w := by
  cases route : j.route <;> simp only [State.removeJob, State.leave, h, route]

/-- The replies that a job's end delivers (R73). -/
def Job.deliveries (j : Job) (st : Status) : List Frame :=
  match j.owedTag with
  | none => []
  | some tag => endReplies j tag st

theorem Job.endReply_eq (tag : Byte) (st : Status) : j.endReply tag st =
    if j.op = .broadcast then ⟨0xA1, tag, [st.code, byte j.ackedWrites, byte j.arbLosses]⟩
    else ⟨0xA0, tag, [st.code, byte j.ackedWrites, byte j.readData.length] ++ j.readData ++
      [byte j.attempts, byte j.arbLosses]⟩ := by
  unfold Job.endReply Job.requestKind Job.endPayload
  cases j.op <;> rfl

theorem cancelReply_eq (tag target : Byte) (st : Status) :
    cancelReply tag target st = ⟨0xA2, tag, [if st = .cancelled then 0x00 else 0x32, target]⟩ := by
  rw [cancelReply]
  split <;> rfl

theorem Job.origin_of_owedTag {tag : Byte} (owed : j.owedTag = some tag) : j.origin = .host tag := by
  unfold Job.owedTag at owed
  cases e : j.origin <;> cases p : j.post <;> simp_all

/-- A deferred CANCEL is answered beside the job's own reply (R70): a host job that owes none carries none. -/
def Job.CancelOwed (j : Job) : Prop := ∀ tag, j.origin = .host tag → j.owedTag = none → j.cancelTag = none

/-- The deliveries without the outcome for the route (R73, steps 1 to 3). -/
theorem State.deliver_eq (st : Status) (h : j.CancelOwed) : s.deliver j st =
    match j.route with
    | none => { s.leave j with replies := s.replies ++ j.deliveries st }
    | some r => State.presenceOutcome { s.leave j with replies := s.replies ++ j.deliveries st } r st j.addressAcked := by
  unfold State.deliver State.leave Job.deliveries
  simp only
  cases owed : j.owedTag with
  | none =>
    cases origin : j.origin with
    | watch w =>
      cases j.cancelTag <;> cases j.route <;>
        simp [State.dropJob, State.jobLeaves, State.setRoute, State.setBranch, State.route]
    | host tag =>
      rw [h tag origin owed]
      cases j.route <;> simp [State.dropJob, State.jobLeaves, State.setRoute, State.setBranch, State.route]
  | some tag =>
    rw [j.origin_of_owedTag owed]
    cases cancel : j.cancelTag <;> cases j.route <;>
      simp [endReplies, cancel, Job.endReply_eq, cancelReply_eq, State.pushReply, State.dropJob, State.jobLeaves,
        State.setRoute, State.setBranch, State.route]

/-- An outcome that gives no evidence moves nothing (R135). -/
theorem State.deliver_neutral {st : Status} (h : j.CancelOwed)
    (neutral : classify st j.addressAcked = .neutral) :
    s.deliver j st = { s.leave j with replies := s.replies ++ j.deliveries st } := by
  rw [State.deliver_eq s j st h]
  split
  · rfl
  · exact State.presenceOutcome_neutral neutral

end

end Sys2Proof.Machine
end

section
/-! SUPPORT. Jobs that leave the pool one after another, and those that wait at the take of CLOSE (R30, R52, R64). -/

namespace Sys2Proof.Machine

/-! ### Jobs leave one after another -/

/-- One of the jobs is of the branch and in the slot. -/
def namesSlot (l : List Job) (b : BranchId) (n : SlotId) : Bool :=
  l.any fun j => decide (j.branch = b) && decide (j.slot = n)

theorem namesSlot_iff {l : List Job} {b : BranchId} {n : SlotId} :
    namesSlot l b n = true ↔ ∃ j ∈ l, j.branch = b ∧ j.slot = n := by
  simp [namesSlot]

/-- With one job to a slot, the jobs picked out of a list name the slots of just those jobs. -/
theorem namesSlot_picked {l : List Job} (slots : (l.map (·.slot)).Nodup) (p : Job → Bool) {b : BranchId} {i : Job}
    (hi : i ∈ l) (branch : i.branch = b) : namesSlot (l.filter p) b i.slot = p i := by
  rw [Bool.eq_iff_iff, namesSlot_iff]
  constructor
  · rintro ⟨j, hj, -, slot⟩
    obtain ⟨hj, pj⟩ := List.mem_filter.1 hj
    rwa [← slots_inj slots hj hi slot]
  · exact fun pi => ⟨i, List.mem_filter.2 ⟨hi, pi⟩, branch, rfl⟩

/-- The jobs have left the pool: their queues have closed up, the JOBS of their routes have fallen, and the watches of the
polls among them have POLL_OUT cleared (R52, R64, R156). Of the routes only a hold may have been set besides. -/
structure TakenOut (l : List Job) (s t : State) : Prop where
  branches : ∀ b, t.branch b =
    { s.branch b with queue := (s.branch b).queue.filter fun i => !namesSlot l b i.slot }
  routes : ∀ r, t.route r = { s.route r with
    jobs := (s.route r).jobs - l.countP fun j => decide (j.route = some r)
    hold := (t.route r).hold }
  watches : ∀ w, t.watch w =
    { s.watch w with pollOut := (s.watch w).pollOut && !l.any fun j => decide (j.origin = .watch w) }

/-- Of a state only its tables matter here. -/
theorem TakenOut.congr {l : List Job} {s t u : State} (h : TakenOut l s t) (branches : u.branches = t.branches)
    (watches : u.watches = t.watches)
    (routes : ∀ r, u.route r = { t.route r with hold := (u.route r).hold }) : TakenOut l s u := by
  refine ⟨fun b => ?_, fun r => ?_, fun w => ?_⟩
  · rw [State.branch, branches]
    exact h.branches b
  · rw [routes r, h.routes r]
  · rw [State.watch, watches]
    exact h.watches w

theorem TakenOut.nil (s : State) : TakenOut [] s s := by
  refine ⟨fun b => ?_, fun r => rfl, fun w => ?_⟩
  · simp [namesSlot]
  · simp

theorem TakenOut.trans {l m : List Job} {s t u : State} (h : TakenOut l s t) (k : TakenOut m t u) :
    TakenOut (l ++ m) s u := by
  refine ⟨fun b => ?_, fun r => ?_, fun w => ?_⟩
  · rw [k.branches, h.branches]
    simp only [List.filter_filter, namesSlot, List.any_append, Bool.not_or, Bool.and_comm]
  · rw [k.routes, h.routes, List.countP_append, Nat.sub_add_eq]
  · rw [k.watches, h.watches]
    simp only [List.any_append, Bool.not_or, Bool.and_assoc]

theorem State.Loses.queue_filter {s t : State} {j : Job} (h : s.Loses j t) (b : BranchId) :
    t.branch b = { s.branch b with queue := (s.branch b).queue.filter fun i => !namesSlot [j] b i.slot } := by
  rw [h b]
  split
  · next e => simp [namesSlot, e, eq_comm]
  · next e => simp [namesSlot, e]

/-- A host job that leaves. -/
theorem TakenOut.leave {s : State} {j : Job} (host : j.isHost = true) : TakenOut [j] s (s.leave j) := by
  refine ⟨(s.leave_loses j).queue_filter, fun r => ?_, fun w => ?_⟩
  · rw [State.leave_route, List.countP_singleton]
    simp
  · have origin : j.origin ≠ .watch w := by
      intro e
      simp [Job.isHost, Job.isPoll, e] at host
    rw [State.leave_watch]
    simp [origin]

theorem State.leave_hold (s : State) (j : Job) (r : RouteId) : ((s.leave j).route r).hold = (s.route r).hold := by
  rw [State.leave_route]

theorem State.removeJob_hold (s : State) (j : Job) (r : RouteId) :
    ((s.removeJob j).route r).hold = (s.route r).hold := by
  cases origin : j.origin with
  | host tag => rw [s.removeJob_host j origin, State.leave_hold]
  | watch w =>
    rw [s.removeJob_watch j origin]
    exact s.leave_hold j r

theorem TakenOut.removeJob (s : State) (j : Job) : TakenOut [j] s (s.removeJob j) := by
  cases origin : j.origin with
  | host tag =>
    rw [s.removeJob_host j origin]
    exact .leave (by simp [Job.isHost, Job.isPoll, origin])
  | watch v =>
    refine ⟨(s.removeJob_loses j).queue_filter, fun r => ?_, fun w => ?_⟩
    · rw [s.removeJob_watch j origin]
      have same : ((s.leave j).clearPollOut v).route r = (s.leave j).route r := rfl
      rw [same, State.leave_route, List.countP_singleton]
      simp
    · rw [State.watch_removeJob]
      by_cases e : v = w
      · simp [origin, e]
      · simp [origin, e]

/-! ### The jobs that wait, at the take of CLOSE (R30) -/

/-- The replies of a job that ends CANCELLED at the take of CLOSE. -/
def Job.cancelledReplies (j : Job) : List Frame :=
  match j.owedTag with
  | none => []
  | some tag => endReplies j.withoutProgress tag .cancelled

/-- The jobs have been removed at the take of CLOSE: they have left the pool, the owed ones have been answered and counted,
and the posted ones counted. -/
structure CloseRemoved (l : List Job) (s t : State) : Prop where
  taken : TakenOut l s t
  holds : ∀ r, (t.route r).hold = (s.route r).hold
  frame : t = { s with
    replies := s.replies ++ l.flatMap Job.cancelledReplies
    cancelledJobs := s.cancelledJobs + l.countP fun j => j.owedTag.isSome
    discardedPosts := min (s.discardedPosts + l.countP fun j => j.isHost && j.post.isSome) 255
    routes := t.routes
    branches := t.branches
    watches := t.watches }

theorem CloseRemoved.nil {s : State} (h : s.discardedPosts ≤ 255) : CloseRemoved [] s s :=
  ⟨.nil s, fun _ => rfl, by simp [h]⟩

theorem CloseRemoved.trans {l m : List Job} {s t u : State} (h : CloseRemoved l s t) (k : CloseRemoved m t u) :
    CloseRemoved (l ++ m) s u := by
  refine ⟨h.taken.trans k.taken, fun r => (k.holds r).trans (h.holds r), ?_⟩
  have discards (a b c : Nat) : min (min (a + b) 255 + c) 255 = min (a + (b + c)) 255 := by omega
  rw [k.frame, h.frame]
  simp [List.countP_append, discards, Nat.add_assoc]

/-- One job that waits is removed at the take of CLOSE. -/
theorem closeRemoves_removed {s : State} {j : Job} (noCancel : j.cancelTag = none) (h : s.discardedPosts ≤ 255) :
    CloseRemoved [j] s (closeRemoves s j) := by
  cases origin : j.origin with
  | watch w =>
    have removes : closeRemoves s j = s.removeJob j := by simp only [closeRemoves, origin]
    have silent : j.cancelledReplies = [] ∧ j.owedTag = none ∧ j.isHost = false := by
      simp [Job.cancelledReplies, Job.owedTag, Job.isHost, Job.isPoll, origin]
    rw [removes]
    refine ⟨.removeJob s j, s.removeJob_hold j, (s.removeJob_eq j).trans ?_⟩
    simp [silent, h]
  | host tag =>
    have host : j.isHost = true := by simp [Job.isHost, Job.isPoll, origin]
    cases post : j.post with
    | some p =>
      have removes : closeRemoves s j = (s.leave j).countDiscards 1 := by
        simp only [closeRemoves, origin, post]
        rw [s.removeJob_host j origin]
      have silent : j.cancelledReplies = [] ∧ j.owedTag = none := by
        simp [Job.cancelledReplies, Job.owedTag, origin, post]
      rw [removes]
      refine ⟨.congr (.leave host) rfl rfl fun r => rfl, s.leave_hold j, ?_⟩
      rw [State.leave_eq]
      simp [State.countDiscards, silent, host, post, Config.countMax]
    | none =>
      have owed : j.owedTag = some tag := by simp [Job.owedTag, origin, post]
      have removes : closeRemoves s j =
          State.countCancelled { s.leave j with replies := s.replies ++ j.cancelledReplies } := by
        simp only [closeRemoves, origin, post]
        rw [s.deliver_neutral j.withoutProgress (fun _ _ _ => noCancel) rfl]
        rfl
      rw [removes]
      refine ⟨.congr (.leave host) rfl rfl fun r => rfl, s.leave_hold j, ?_⟩
      rw [State.leave_eq]
      simp [State.countCancelled, owed, post, h]

/-- The jobs that wait are removed one after another. -/
theorem foldl_closeRemoves_removed : ∀ (l : List Job) (s : State), (∀ j ∈ l, j.cancelTag = none) →
    s.discardedPosts ≤ 255 → CloseRemoved l s (l.foldl closeRemoves s)
  | [], s, _, h => .nil h
  | j :: l, s, noCancel, h => by
    have one := closeRemoves_removed (noCancel j List.mem_cons_self) h
    have within : (closeRemoves s j).discardedPosts ≤ 255 := by
      rw [one.frame]
      exact Nat.min_le_right ..
    exact one.trans (foldl_closeRemoves_removed l _ (fun i hi => noCancel i (List.mem_cons_of_mem _ hi)) within)

end Sys2Proof.Machine
end

section
/-! SUPPORT. The begin of the close procedure: the jobs ACTIVE become ENDING, and what is left of every field (R29 to R31,
R98). -/

namespace Sys2Proof.Machine

/-! ### The jobs ACTIVE at the take of CLOSE (R31, R98) -/

/-- An engine as its job becomes ENDING with cause CLOSE, if that job's slot is named (R98). -/
def Engine.closing (e : Engine) (named : SlotId → Bool) (atBoundary : Bool) : Engine :=
  match e with
  | .active x => if named x.slot then (Engine.active x).onEnding x.slot .close atBoundary else .active x
  | e => e

theorem Engine.onEnding_active (x : Conduct) (n : SlotId) (cause : EndCause) (atBoundary : Bool) :
    (Engine.active x).onEnding n cause atBoundary =
      if x.slot = n then .active { x with phase := x.phase.onEnding cause atBoundary } else .active x := rfl

/-- Becoming ENDING twice for one cause is becoming ENDING once. -/
theorem Phase.onEnding_twice (p : Phase) (cause : EndCause) (atBoundary : Bool) :
    (p.onEnding cause atBoundary).onEnding cause atBoundary = p.onEnding cause atBoundary := by
  unfold Phase.onEnding
  cases p with
  | reading k => cases k <;> cases atBoundary <;> rfl
  | _ => cases atBoundary <;> rfl

theorem Engine.closing_closing (e : Engine) (p q : SlotId → Bool) (atBoundary : Bool) :
    (e.closing p atBoundary).closing q atBoundary = e.closing (fun n => p n || q n) atBoundary := by
  cases e with
  | active x =>
    cases hp : p x.slot <;> cases hq : q x.slot <;>
      simp [Engine.closing, Engine.onEnding_active, Phase.onEnding_twice, hp, hq]
  | _ => rfl

/-- The jobs have become ENDING with cause CLOSE, and their engines have been told (R31, R98). -/
structure MadeEnding (l : List Job) (boundary : List BranchId) (s t : State) : Prop where
  frame : t = { s with branches := t.branches }
  branches : ∀ b, t.branch b = { s.branch b with
    queue := (s.branch b).queue.map fun i => if namesSlot l b i.slot then { i with state := .ending .close } else i
    engine := (s.branch b).engine.closing (namesSlot l b) (boundary.contains b) }

theorem MadeEnding.nil (boundary : List BranchId) (s : State) : MadeEnding [] boundary s s := by
  refine ⟨rfl, fun b => ?_⟩
  have same : (s.branch b).engine.closing (namesSlot [] b) (boundary.contains b) = (s.branch b).engine := by
    cases (s.branch b).engine <;> rfl
  rw [same]
  simp [namesSlot]

theorem MadeEnding.trans {l m : List Job} {boundary : List BranchId} {s t u : State} (h : MadeEnding l boundary s t)
    (k : MadeEnding m boundary t u) : MadeEnding (l ++ m) boundary s u := by
  have both (b : BranchId) (n : SlotId) : namesSlot (l ++ m) b n = (namesSlot l b n || namesSlot m b n) :=
    List.any_append
  refine ⟨?_, fun b => ?_⟩
  · rw [k.frame, h.frame]
  · rw [k.branches, h.branches]
    simp only [Engine.closing_closing, List.map_map, funext (both b), Branch.mk.injEq, true_and]
    refine List.map_congr_left fun i _ => ?_
    simp only [Function.comp]
    cases namesSlot l b i.slot <;> cases hm : namesSlot m b i.slot <;> simp [hm]

theorem makeEnding_made (s : State) (j : Job) (boundary : List BranchId) :
    MadeEnding [j] boundary s (s.makeEnding j .close (boundary.contains j.branch)) := by
  refine ⟨rfl, fun b => ?_⟩
  rw [State.makeEnding_eq, State.branch_setBranch]
  by_cases e : j.branch = b
  · subst e
    have engine : (s.branch j.branch).engine.onEnding j.slot .close (boundary.contains j.branch) =
        (s.branch j.branch).engine.closing (namesSlot [j] j.branch) (boundary.contains j.branch) := by
      cases (s.branch j.branch).engine with
      | active x =>
        by_cases slot : x.slot = j.slot
        · simp [Engine.closing, Engine.onEnding_active, namesSlot, slot]
        · simp [Engine.closing, Engine.onEnding_active, namesSlot, slot, Ne.symm slot]
      | _ => rfl
    rw [if_pos rfl, engine]
    simp [namesSlot, eq_comm]
  · have none (n : SlotId) : namesSlot [j] b n = false := by simp [namesSlot, e]
    have same : (s.branch b).engine.closing (namesSlot [j] b) (boundary.contains b) = (s.branch b).engine := by
      cases (s.branch b).engine with
      | active x => simp [Engine.closing, none]
      | _ => rfl
    rw [if_neg e, same]
    simp [none]

theorem foldl_makeEnding_made (boundary : List BranchId) : ∀ (l : List Job) (s : State),
    MadeEnding l boundary s (l.foldl (fun u j => u.makeEnding j .close (boundary.contains j.branch)) s)
  | [], s => .nil boundary s
  | j :: l, s => (makeEnding_made s j boundary).trans (foldl_makeEnding_made boundary l _)

/-! ### The begin of the close procedure, on every field (R29 to R31) -/

/-- With one job to a slot, the jobs picked out of the pool name the slots of just those jobs. -/
theorem PoolLaw.namesSlot_filter {s : State} (law : PoolLaw s) (p : Job → Bool) {b : BranchId} {i : Job}
    (h : i ∈ (s.branch b).queue) : namesSlot (s.jobs.filter p) b i.slot = p i :=
  namesSlot_picked law.slots p (State.mem_jobs.2 ⟨b, h⟩) (law.placed b i h)

/-- There are never more jobs than slots (R58). -/
theorem PoolLaw.length_le {s : State} (law : PoolLaw s) : s.jobs.length ≤ 24 := by
  have slots := law.slots.length_le_card
  simpa using slots

/-- The jobs that wait. -/
def State.waitingJobs (s : State) : List Job := s.jobs.filter fun j => !j.onWires

/-- The queue of a branch once the jobs that wait have left it and those ACTIVE have become ENDING. -/
def endingQueue (q : List Job) : List Job :=
  (q.filter Job.onWires).map fun j => if j.state = .active then { j with state := .ending .close } else j

/-- What the begin of the close procedure leaves: every field. -/
structure BegunClose (boundary : List BranchId) (s t : State) : Prop where
  frame : t = { s with
    session := .closing
    replies := s.replies ++ s.waitingJobs.flatMap Job.cancelledReplies
    cancelledJobs := s.waitingJobs.countP fun j => j.owedTag.isSome
    discardedPosts := s.waitingJobs.countP fun j => j.isHost && j.post.isSome
    attnLow := false
    routes := t.routes
    branches := t.branches
    watches := t.watches }
  watches : ∀ w, t.watch w = { s.watch w with
    armed := false
    countdown := 0
    pollOut := (s.watch w).pollOut && !s.waitingJobs.any fun j => decide (j.origin = .watch w) }
  routes : ∀ r, t.route r =
    { s.route r with jobs := (s.route r).jobs - s.waitingJobs.countP fun j => decide (j.route = some r) }
  branches : ∀ b, t.branch b = { s.branch b with
    queue := endingQueue (s.branch b).queue
    engine := (s.branch b).engine.closing (fun n => (s.branch b).queue.any fun j =>
      decide (j.slot = n) && decide (j.state = .active)) (boundary.contains b) }

/-- The state once the jobs that wait have been removed. -/
def State.waitingRemoved (s : State) : State := s.waitingJobs.foldl closeRemoves s.closeBegun

theorem State.waitingRemoved_removed {s : State} (noCancel : ∀ j ∈ s.jobs, j.onWires = false → j.cancelTag = none) :
    CloseRemoved s.waitingJobs s.closeBegun s.waitingRemoved := by
  refine foldl_closeRemoves_removed s.waitingJobs s.closeBegun (fun j hj => ?_) (Nat.zero_le _)
  obtain ⟨member, waits⟩ := List.mem_filter.1 hj
  exact noCancel j member (by simpa using waits)

section
variable {s : State} (law : PoolLaw s)
include law

theorem PoolLaw.waitingRemoved_queue (removed : CloseRemoved s.waitingJobs s.closeBegun s.waitingRemoved) (b : BranchId) :
    s.waitingRemoved.branch b = { s.branch b with queue := (s.branch b).queue.filter Job.onWires } := by
  have begun : s.closeBegun.branch b = s.branch b := rfl
  have wires : ((s.branch b).queue.filter fun i => !namesSlot s.waitingJobs b i.slot) =
      (s.branch b).queue.filter Job.onWires :=
    List.filter_congr fun i hi => by rw [State.waitingJobs, law.namesSlot_filter _ hi, Bool.not_not]
  rw [removed.taken.branches, begun, wires]

/-- The slots of the jobs ACTIVE, read in the queue of a branch. -/
theorem PoolLaw.namesSlot_active (removed : CloseRemoved s.waitingJobs s.closeBegun s.waitingRemoved) (b : BranchId)
    (n : SlotId) : namesSlot (s.waitingRemoved.jobs.filter fun j => decide (j.state = .active)) b n =
      (s.branch b).queue.any fun j => decide (j.slot = n) && decide (j.state = .active) := by
  have queue (k : BranchId) := congrArg Branch.queue (law.waitingRemoved_queue removed k)
  rw [Bool.eq_iff_iff, namesSlot_iff, List.any_eq_true]
  constructor
  · rintro ⟨j, hj, branch, slot⟩
    obtain ⟨hj, active⟩ := List.mem_filter.1 hj
    obtain ⟨k, hk⟩ := State.mem_jobs.1 hj
    rw [queue k] at hk
    have member := List.mem_of_mem_filter hk
    rw [← branch, law.placed k j member]
    exact ⟨j, member, by simpa [slot] using active⟩
  · rintro ⟨j, hj, facts⟩
    obtain ⟨slot, active⟩ : j.slot = n ∧ j.state = .active := by simpa using facts
    have wires : j.onWires = true := by simp [Job.onWires, active]
    refine ⟨j, List.mem_filter.2 ⟨State.mem_jobs.2 ⟨b, ?_⟩, by simpa using active⟩, law.placed b j hj, slot⟩
    rw [queue b]
    exact List.mem_filter.2 ⟨hj, wires⟩

theorem PoolLaw.beginClose_begun (noCancel : ∀ j ∈ s.jobs, j.onWires = false → j.cancelTag = none)
    (boundary : List BranchId) : BegunClose boundary s (s.beginClose boundary) := by
  have removed := State.waitingRemoved_removed noCancel
  have made := foldl_makeEnding_made boundary (s.waitingRemoved.jobs.filter fun j => decide (j.state = .active))
    s.waitingRemoved
  have begins : s.beginClose boundary = _ := s.beginClose_eq boundary
  change s.beginClose boundary = (s.waitingRemoved.jobs.filter fun j => decide (j.state = .active)).foldl
    (fun u j => u.makeEnding j .close (boundary.contains j.branch)) s.waitingRemoved at begins
  rw [← begins] at made
  have few : s.waitingJobs.countP (fun j => j.isHost && j.post.isSome) ≤ 255 :=
    (List.countP_le_length.trans (List.length_filter_le ..)).trans (law.length_le.trans (by decide))
  refine ⟨?_, fun w => ?_, fun r => ?_, fun b => ?_⟩
  · rw [made.frame, removed.frame]
    simp [State.closeBegun, State.enterSession, State.driveAttn, few]
  · have same : (s.beginClose boundary).watch w = s.waitingRemoved.watch w := by rw [made.frame]; rfl
    rw [same, removed.taken.watches, State.closeBegun_watch]
  · have same : (s.beginClose boundary).route r = s.waitingRemoved.route r := by rw [made.frame]; rfl
    rw [same, removed.taken.routes, removed.holds]
    rfl
  · have wires : (((s.branch b).queue.filter Job.onWires).map fun i => if namesSlot (s.waitingRemoved.jobs.filter fun j =>
        decide (j.state = .active)) b i.slot then { i with state := JobState.ending .close } else i) =
        endingQueue (s.branch b).queue := by
      refine List.map_congr_left fun i hi => ?_
      have pool : PoolLaw s.waitingRemoved := law.of_identities fun k => by
        rw [State.identities, law.waitingRemoved_queue removed]
        exact List.filter_sublist.map _
      have member : i ∈ (s.waitingRemoved.branch b).queue := by
        rw [law.waitingRemoved_queue removed]
        exact hi
      rw [pool.namesSlot_filter _ member]
      simp only [decide_eq_true_eq]
    rw [made.branches, law.waitingRemoved_queue removed, wires, funext (law.namesSlot_active removed b)]

end

end Sys2Proof.Machine
end

section
/-! SUPPORT. CLOSE and RESTART taken in OPEN (R29 to R34). -/

namespace Sys2Proof.Machine

/-- The reply of the kind is pending, and the intake stopped (R29, R34). -/
def State.leavingBy (s : State) (k : Kind) (tag : Byte) : State :=
  { s with
    pendingClose := if k = .close then some tag else s.pendingClose
    pendingRestart := if k = .restart then some tag else s.pendingRestart
    intakeStopped := true }

/-- CLOSE or RESTART taken in OPEN begins the close procedure, and tests whether it is complete. -/
theorem AsksOpen.leaves {c : Instr} {k : Kind} {boundary : List BranchId} {f : Frame} {rest : List Frame} {s : State}
    (leaves : c = .closeSession boundary ∧ k = .close ∨ c = .restart boundary ∧ k = .restart)
    (asks : AsksOpen s f rest k) (payload : f.payload = []) :
    exec c s = .next ((((s.taken f rest).leavingBy k f.tag).beginClose boundary).testClose.endTake) := by
  have formed : readEmpty f.payload = some () := by rw [payload]; rfl
  rcases leaves with ⟨rfl, rfl⟩ | ⟨rfl, rfl⟩
  · have acts := asks.act (by decide) readEmpty (fun t f _ => t.close f.tag boundary) formed
    rw [exec_closeSession, execCloseSession, acts, State.close_eq]
    rfl
  · have acts := asks.act (by decide) readEmpty (fun t f _ => t.restartTaken f.tag boundary) formed
    have opened : (s.taken f rest).session = .opened := asks.opened
    rw [exec_restart, execRestart, acts, State.restartTaken_opened opened]
    rfl

/-- The end of the take changes nothing that the close procedure looks at. -/
theorem State.endTake_testClose (s : State) : s.endTake.testClose = s.testClose.endTake := by
  have settled : s.endTake.closeSettled = s.closeSettled := rfl
  have completes : s.endTake.completeClose = s.completeClose.endTake := by
    rw [State.completeClose_eq, State.completeClose_eq]
    rfl
  unfold State.testClose
  rw [settled, completes]
  split <;> rfl

theorem exec_closeProcedureCompletes_closing {s : State} (closing : s.session = .closing) :
    exec .closeProcedureCompletes s = .next s.testClose := by
  rw [exec_closeProcedureCompletes, execCloseProcedureCompletes, if_pos closing]

/-- Only a job on the wires stays in the pool. -/
theorem BegunClose.jobs_eq_nil {boundary : List BranchId} {s t : State} (h : BegunClose boundary s t) :
    t.jobs = [] ↔ ∀ j ∈ s.jobs, j.onWires = false := by
  rw [State.jobs_eq_nil]
  constructor
  · intro empty j member
    obtain ⟨b, hj⟩ := State.mem_jobs.1 member
    have none := empty b
    rw [h.branches] at none
    by_contra wires
    have kept : j ∈ (s.branch b).queue.filter Job.onWires := List.mem_filter.2 ⟨hj, by simpa using wires⟩
    rw [List.map_eq_nil_iff.1 none] at kept
    cases kept
  · intro waits b
    rw [h.branches]
    refine List.map_eq_nil_iff.2 (List.filter_eq_nil_iff.2 fun j hj => ?_)
    simp [waits j (State.mem_jobs.2 ⟨b, hj⟩)]

theorem BegunClose.pendingReset {boundary : List BranchId} {s t : State} (h : BegunClose boundary s t) (b : BranchId) :
    t.pendingReset b = s.pendingReset b := by
  rw [h.frame]
  rfl

theorem Engine.closing_eq (e : Engine) (q : List Job) (atBoundary : Bool) :
    (e.closing (fun n => q.any fun j => decide (j.slot = n) && decide (j.state = .active)) atBoundary) =
      match e with
      | .active x =>
        if ∃ j ∈ q, j.slot = x.slot ∧ j.state = .active then (Engine.active x).onEnding x.slot .close atBoundary
        else .active x
      | e => e := by
  cases e with
  | active x => simp [Engine.closing]
  | _ => rfl

/-- Settles O17: what the begin of the close procedure leaves is `BegunClose`; the test at its end completes the procedure
where nothing remains. -/
theorem closeAndRestartClearTheQueues : Obligations.CloseAndRestartClearTheQueues := by
  intro c k boundary f rest s leaves asks payload law noCancel
  have pool : PoolLaw ((s.taken f rest).leavingBy k f.tag) := law.of_identities fun _ => .refl _
  have begun : BegunClose boundary ((s.taken f rest).leavingBy k f.tag) _ := pool.beginClose_begun noCancel boundary
  have runs := asks.leaves leaves payload
  generalize ((s.taken f rest).leavingBy k f.tag).beginClose boundary = v at begun runs
  have closing : v.endTake.session = .closing := by rw [begun.frame]; rfl
  refine ⟨v.endTake, ?_, begun.watches, begun.routes, fun b => ?_, fun remains => ?_, fun waits resets close restart => ?_⟩
  · have frame := congrArg State.endTake begun.frame
    have free := asks.asks.ready.free
    refine frame.trans ?_
    simp only [State.endTake, State.leavingBy, State.taken, free]
    rfl
  · refine (begun.branches b).trans ?_
    rw [Engine.closing_eq]
    rfl
  · have stays : v.jobs ≠ [] ∨ ∃ b : BranchId, v.pendingReset b ≠ none := by
      refine remains.imp (fun ⟨j, hj, wires⟩ empty => ?_) fun ⟨b, pending⟩ => ⟨b, begun.pendingReset b ▸ pending⟩
      simpa [wires] using begun.jobs_eq_nil.1 empty j hj
    rw [runs, State.testClose_waits stays]
  · have completes : v.testClose = v.completeClose :=
      State.testClose_settled (begun.jobs_eq_nil.2 waits) fun b => (begun.pendingReset b).trans (resets b)
    refine ⟨?_, _, runs, ?_⟩
    · rw [runs, exec_closeProcedureCompletes_closing closing, State.endTake_testClose]
    · rw [completes, State.completeClose_eq]
      refine ⟨rfl, begun.jobs_eq_nil.2 waits, ?_, ?_⟩
      · rw [begun.frame]
        rcases leaves with ⟨-, rfl⟩ | ⟨-, rfl⟩
        · rfl
        · simp [State.endTake, State.leavingBy, State.taken, restart]
      · rw [begun.frame]
        rcases leaves with ⟨-, rfl⟩ | ⟨-, rfl⟩
        · simp [State.endTake, State.leavingBy, State.taken, close]
          exact ⟨rfl, rfl⟩
        · simp [State.endTake, State.leavingBy, State.taken, restart]
          exact ⟨rfl, rfl⟩

end Sys2Proof.Machine
end

section
/-! SUPPORT. The end of a job on the wires: the first deliveries, the late failure of its route, and its watch (R73, R123
to R127, R157). -/

namespace Sys2Proof.Machine

/-! ### The first deliveries -/

theorem State.deliver_waiting (s : State) (j : Job) (st : Status) (q : RouteId) :
    ((s.deliver j st).route q).waiting = (s.route q).waiting := by
  have judged (t : State) (r : RouteId) : ((t.presenceOutcome r st j.addressAcked).route q).waiting =
      (t.route q).waiting := by
    obtain ⟨p, good, bad, e⟩ := t.route_presenceOutcome r q st j.addressAcked
    rw [e]
    split
    · next same => rw [same]
    · rfl
  have left (t : State) (r : RouteId) : ((t.jobLeaves r).route q).waiting = (t.route q).waiting := by
    rw [State.jobLeaves, State.route_setRoute]
    split
    · next same => rw [same]
    · rfl
  unfold State.deliver
  cases j.route with
  | none => cases j.owedTag <;> cases j.cancelTag <;> cases j.origin <;> rfl
  | some r =>
    simp only [judged, left]
    cases j.owedTag <;> cases j.cancelTag <;> cases j.origin <;> rfl

theorem State.removeJob_waiting (s : State) (j : Job) (q : RouteId) :
    ((s.removeJob j).route q).waiting = (s.route q).waiting := by
  cases origin : j.origin with
  | host tag => rw [s.removeJob_host j origin, State.leave_route]
  | watch w =>
    rw [s.removeJob_watch j origin]
    have same : ((s.leave j).clearPollOut w).route q = (s.leave j).route q := rfl
    rw [same, State.leave_route]

theorem State.purge_waiting (s : State) (r : RouteId) (d : Discards) (q : RouteId) :
    ((s.purge r d).1.route q).waiting = (s.route q).waiting :=
  purge_keeps (fun t => (t.route q).waiting) (fun acc j => by
    unfold purgeOne
    split
    · exact acc.1.removeJob_waiting j q
    · exact acc.1.deliver_waiting _ _ q
    · exact acc.1.removeJob_waiting j q) _ (s, d)

/-- Once a late failure has been carried out none waits for its route. -/
theorem State.carryOut_waiting (s : State) (r : RouteId) (f : FailedPost) (d : Discards) :
    ((s.carryOut r f d).route r).waiting = none := by
  unfold State.carryOut
  simp only
  rw [State.route, State.offer_routes]
  refine (congrArg Route.waiting (State.route_setRoute_self ..)).trans ?_
  rw [State.purge_waiting, State.route_setRoute_self]

theorem State.countCloseEnd_eq (s : State) (j : Job) (st : Status) :
    s.countCloseEnd j st = { s with cancelledJobs := s.cancelledJobs +
      if s.session = .closing ∧ j.owedTag ≠ none ∧ j.state = .ending .close ∧ st = .cancelled then 1 else 0 } := by
  unfold State.countCloseEnd
  simp only [Option.isSome_iff_ne_none]
  split <;> rfl

/-- The deliveries of the model are those of the statements. -/
theorem State.deliver_delivered (s : State) (j : Job) (st : Status) (h : j.CancelOwed) :
    (s.countCloseEnd j st).deliver j st = s.delivered j st := by
  rw [State.deliver_eq _ _ _ h, State.countCloseEnd_eq]
  unfold State.delivered State.leave Job.deliveries
  cases j.route <;> rfl

section
variable (s : State) (j : Job) (st : Status)

theorem State.delivered_session (h : j.CancelOwed) : (s.delivered j st).session = s.session := by
  rw [← s.deliver_delivered j st h]
  exact congrArg Prod.fst (State.closing_of_rest ((State.deliver_rest _ j st).trans (s.countCloseEnd_rest j st)))

theorem State.delivered_waiting (h : j.CancelOwed) (r : RouteId) :
    ((s.delivered j st).route r).waiting = (s.route r).waiting := by
  rw [← s.deliver_delivered j st h, State.deliver_waiting, State.countCloseEnd_eq]
  rfl

/-- The jobs of the pool after the deliveries are the others. -/
theorem PoolLaw.delivered_jobs {s : State} (law : PoolLaw s) {j : Job} (st : Status) (h : j.CancelOwed)
    (held : j ∈ s.jobs) {i : Job} (hi : i ∈ (s.delivered j st).jobs) : i ∈ s.jobs ∧ i.slot ≠ j.slot := by
  rw [← s.deliver_delivered j st h] at hi
  obtain ⟨k, hk⟩ := State.mem_jobs.1 hi
  have loses := State.deliver_loses (s.countCloseEnd j st) j st
  have queue : ((s.countCloseEnd j st).branch k).queue = (s.branch k).queue := by
    rw [State.countCloseEnd_eq]
    rfl
  rw [loses.queue, queue] at hk
  split at hk
  · obtain ⟨member, other⟩ := List.mem_filter.1 hk
    exact ⟨State.mem_jobs.2 ⟨k, member⟩, by simpa using other⟩
  · next away =>
    have member : i ∈ s.jobs := State.mem_jobs.2 ⟨k, hk⟩
    refine ⟨member, fun slot => away ?_⟩
    rw [← slots_inj law.slots member held slot]
    exact law.placed k i hk

end

/-! ### Late failures -/

theorem State.settleWaiting_eq {s : State} {r : RouteId} (free : s.routeOnWires r = false) :
    s.settleWaiting r = s.waitingSettled r := by
  unfold State.settleWaiting State.waitingSettled
  rw [free]
  rfl

/-- What a late failure of the route counts ahead of its purge: the failure that waited, and the jobs merged into it. -/
def Route.discardsAhead (rt : Route) : Discards :=
  match rt.waiting with
  | none => ⟨0, none⟩
  | some w => ⟨min (w.merged.count + 1) 255,
      some (w.failed.post, (w.merged.span.map Prod.snd).getD w.failed.post)⟩

theorem Route.discardsAhead_none {rt : Route} (h : rt.waiting = none) : rt.discardsAhead = ⟨0, none⟩ := by
  unfold Route.discardsAhead
  rw [h]

theorem Route.discardsAhead_congr {rt ru : Route} (h : rt.waiting = ru.waiting) :
    rt.discardsAhead = ru.discardsAhead := by
  unfold Route.discardsAhead
  rw [h]

theorem State.lateFailure_free {s : State} {r : RouteId} (free : s.routeOnWires r = false) (f : FailedPost) :
    s.lateFailure r f = s.carryOut r f (s.route r).discardsAhead := by
  unfold State.lateFailure Route.discardsAhead
  simp only [free]
  cases (s.route r).waiting with
  | none => rfl
  | some w =>
    obtain ⟨failed, count, span⟩ := w
    cases span <;> rfl

/-! ### The end of the job as a whole -/

section
variable {s : State} {j : Job} {st : Status}

theorem State.watchTakes_host {tag : Byte} (h : j.origin = .host tag) (s : State) (st : Status) :
    s.watchTakes j st = s := by
  unfold State.watchTakes
  rw [h]

theorem State.watchTakes_watch {w : WatchId} (h : j.origin = .watch w) (s : State) (st : Status) :
    s.watchTakes j st = s.pollEnds w st j.readData := by
  unfold State.watchTakes
  rw [h]

theorem State.settleRouteOf_some {r : RouteId} (h : j.route = some r) (s : State) :
    s.settleRouteOf j = s.settleWaiting r := by
  unfold State.settleRouteOf
  rw [h]

theorem State.settleRouteOf_none (h : j.route = none) (s : State) : s.settleRouteOf j = s := by
  unfold State.settleRouteOf
  rw [h]

/-- The end on the wires after the deliveries. -/
theorem State.endOnWires_eq (h : j.CancelOwed) (s : State) (st : Status) :
    s.endOnWires j st = (((s.delivered j st).postedEnds j st).settleRouteOf j).watchTakes j st := by
  unfold State.endOnWires State.endDelivered
  rw [s.deliver_delivered j st h]

theorem State.postedEnds_quiet (quiet : ∀ tag post, j.origin = .host tag → j.post = some post → st = .ok) (s : State) :
    s.postedEnds j st = s := by
  unfold State.postedEnds
  split
  · next tag post r origin posted _ => exact if_pos (quiet tag post origin posted)
  · rfl

theorem State.postedEnds_fails {tag : Byte} {post : Nat} {r : RouteId} (origin : j.origin = .host tag)
    (posted : j.post = some post) (route : j.route = some r) (fails : st ≠ .ok) (s : State) :
    s.postedEnds j st =
      if s.session = .opened then s.lateFailure r ⟨tag, post, st, j.ackedWrites⟩ else s.countDiscards 1 := by
  unfold State.postedEnds
  rw [origin, posted, route]
  exact if_neg fails

/-- A job that owes a reply is a host job that is not posted. -/
theorem Job.owed_not_posted (owed : j.owedTag ≠ none) : ∃ tag, j.origin = .host tag ∧ j.post = none := by
  unfold Job.owedTag at owed
  cases origin : j.origin <;> cases post : j.post <;> simp_all

end

/-- After the deliveries of a job whose route had no other job on the wires, the route has none there. -/
theorem Conducts.delivered_free {s : State} {b : BranchId} {c : Conduct} {j : Job} {st : Status} {r : RouteId}
    (conducts : Conducts s b c j) (h : j.CancelOwed)
    (alone : ∀ i ∈ s.jobs, i.route = some r → i.slot ≠ j.slot → i.onWires = false) :
    (s.delivered j st).routeOnWires r = false := by
  refine List.any_eq_false.2 fun i hi => ?_
  obtain ⟨member, other⟩ := conducts.pool.delivered_jobs st h (State.mem_jobs.2 ⟨b, conducts.member⟩) hi
  rw [Bool.and_eq_true, decide_eq_true_eq]
  rintro ⟨route, wires⟩
  simp [alone i member route other] at wires

end Sys2Proof.Machine
end

section
/-! SUPPORT. STOPPING_DONE of a job that is not answered (R54, R123 to R128, R157). -/

namespace Sys2Proof.Machine

/-! ### An engine's state does not matter to what the end of a job does -/

section
variable (s : State) (b : BranchId) (e : Engine)

theorem State.setEngine_offer (x : NoticeBody) : (s.offer x).setEngine b e = (s.setEngine b e).offer x := by
  unfold State.offer
  simp only [apply_ite fun t : State => t.setEngine b e]
  rfl

theorem State.setEngine_offerChange (x : ChangeBody) :
    (s.offerChange x).setEngine b e = (s.setEngine b e).offerChange x := by
  unfold State.offerChange
  simp only [apply_ite fun t : State => t.setEngine b e]
  rfl

theorem State.setEngine_setRoute (r : RouteId) (v : Route) :
    (s.setRoute r v).setEngine b e = (s.setEngine b e).setRoute r v := rfl

theorem State.setEngine_changePresence (r : RouteId) (cause : Option Status) (new : Presence) :
    (s.changePresence r cause new).setEngine b e = (s.setEngine b e).changePresence r cause new := by
  unfold State.changePresence
  simp only [apply_ite fun t : State => t.setEngine b e, State.setEngine_offer]
  rfl

theorem foldl_commutes {α : Type} (g : State → State) (f : State → α → State) (h : ∀ s a, g (f s a) = f (g s) a) :
    ∀ (l : List α) (s : State), g (l.foldl f s) = l.foldl f (g s)
  | [], _ => rfl
  | a :: l, s => (foldl_commutes g f h l (f s a)).trans (by rw [h]; rfl)

theorem State.setEngine_presenceOutcome (r : RouteId) (st : Status) (acked : Bool) :
    (s.presenceOutcome r st acked).setEngine b e = (s.setEngine b e).presenceOutcome r st acked := by
  unfold State.presenceOutcome
  simp only [State.setEngine_route]
  split
  · rfl
  · exact foldl_commutes (·.setEngine b e) _ (fun t p => t.setEngine_changePresence b e r (some st) p) _ _

theorem State.setEngine_comparePoll (w : WatchId) (c : WatchConfig) (value : List Byte) :
    (s.comparePoll w c value).setEngine b e = (s.setEngine b e).comparePoll w c value := by
  unfold State.comparePoll
  simp only [State.setEngine_watch]
  split
  · split
    · exact State.setEngine_offerChange ..
    · rfl
  · split
    · exact State.setEngine_offerChange ..
    · rfl

theorem State.setEngine_pollEnds (w : WatchId) (st : Status) (value : List Byte) :
    (s.pollEnds w st value).setEngine b e = (s.setEngine b e).pollEnds w st value := by
  have watch : ((s.setEngine b e).clearPollOut w).watch w = (s.clearPollOut w).watch w := rfl
  unfold State.pollEnds
  simp only [watch]
  split
  · rfl
  · simp only [apply_ite fun t : State => t.setEngine b e, State.setEngine_comparePoll]
    rfl

end

/-! ### The end of any job on the wires -/

section
variable {s : State} {j : Job} {st : Status} {r : RouteId}

/-- A job whose end makes no late failure. -/
theorem State.endOnWires_quiet (h : j.CancelOwed) (route : j.route = some r)
    (quiet : ∀ tag post, j.origin = .host tag → j.post = some post → st = .ok) :
    s.endOnWires j st = ((s.delivered j st).settleWaiting r).watchTakes j st := by
  rw [State.endOnWires_eq h, State.postedEnds_quiet quiet, State.settleRouteOf_some route]

/-- A posted job that failed in OPEN, its route having no other job on the wires. -/
theorem State.endOnWires_lateFailure {tag : Byte} {post : Nat} (h : j.CancelOwed) (route : j.route = some r)
    (origin : j.origin = .host tag) (posted : j.post = some post) (fails : st ≠ .ok) (opened : s.session = .opened)
    (free : (s.delivered j st).routeOnWires r = false) :
    s.endOnWires j st =
      (s.delivered j st).carryOut r ⟨tag, post, st, j.ackedWrites⟩ (s.route r).discardsAhead := by
  rw [State.endOnWires_eq h, State.postedEnds_fails origin posted route fails,
    if_pos ((s.delivered_session j st h).trans opened), State.lateFailure_free free,
    Route.discardsAhead_congr (s.delivered_waiting j st h r),
    State.settleRouteOf_some route, State.settleWaiting_none (State.carryOut_waiting ..), State.watchTakes_host origin]

end

/-! ### STOPPING_DONE -/

section
variable {s : State} {b : BranchId} {c : Conduct} {j : Job} {why : StopReason} {st : Status}

/-- The statements' ways of ending in STOPPING are those of the model. -/
theorem State.stopEnds_fate (ends : s.stopEnds j why st) : s.fateAtStop j why = .ends st := by
  unfold State.fateAtStop
  rcases ends with ⟨rfl, rfl⟩ | ⟨rfl, rfl⟩ | ⟨rfl, rfl⟩ | ⟨cause, rfl, rfl⟩ | ⟨since, cause, rfl, state, rfl⟩ |
    ⟨since, rfl, state, rfl, last⟩
  · rfl
  · rfl
  · rfl
  · rfl
  · simp [Job.fateOfRefusal, Job.endCause, state]
  · rcases last with route | ⟨r, rc, route, config, used⟩
    · simp [Job.fateOfRefusal, Job.endCause, state, State.routeConfigOf, route]
    · simp [Job.fateOfRefusal, Job.endCause, state, State.routeConfigOf, route, config, used]

/-- The state as the stop has been sent, the lines released. -/
def State.stopSent (s : State) (b : BranchId) : State := s.setBranch b (s.branch b).stopped

theorem State.stopSent_jobs (s : State) (b : BranchId) : (s.stopSent b).jobs = s.jobs :=
  State.jobs_congr fun k => by
    rw [State.stopSent, State.branch_setBranch]
    split
    · next e => rw [← e]; rfl
    · rfl

theorem Conducts.stops (conducts : Conducts s b c j) (phase : c.phase = .stopping why) (ends : s.stopEnds j why st) :
    exec (.stoppingDone b) s = .next ((((s.stopSent b).endOnWires j st).setEngine b .idle).selectIfIdle b) := by
  show execStoppingDone b s = _
  unfold execStoppingDone
  simp only [conducts.conducting, phase, State.stopEnds_fate ends]
  rfl

theorem Conducts.stopSent (conducts : Conducts s b c j) : Conducts (s.stopSent b) b c j := by
  have branch : (s.stopSent b).branch b = (s.branch b).stopped := State.branch_setBranch_self ..
  refine ⟨conducts.pool.of_identities fun k => ?_, ?_, ?_, conducts.slot⟩
  · rw [State.identities, State.stopSent, State.branch_setBranch]
    split
    · next e =>
      rw [e]
      exact .refl _
    · exact .refl _
  · rw [branch]
    exact conducts.engine
  · rw [branch]
    exact conducts.member

end

theorem State.setRoute_setRoute (s : State) (r : RouteId) (v w : Route) :
    (s.setRoute r v).setRoute r w = s.setRoute r w := by
  simp [State.setRoute]

theorem State.setBranch_setBranch (s : State) (b : BranchId) (v w : Branch) :
    (s.setBranch b v).setBranch b w = s.setBranch b w := by
  simp [State.setBranch]

/-- A late failure of a route with no other job has nothing to purge. -/
theorem State.carryOut_alone {s : State} {r : RouteId} (alone : ∀ i ∈ s.jobs, i.route ≠ some r)
    (unheld : (s.route r).waiting = none) (f : FailedPost) (d : Discards) :
    s.carryOut r f d =
      (s.setRoute r { s.route r with hold := some ⟨f.post, f.status, d.count⟩ }).offer (.lateFault r f d) := by
  have empty (t : State) (jobs : t.jobs = s.jobs) : t.purge r d = (t, d) := by
    have none : (t.jobs.filter fun j => decide (j.route = some r)) = [] :=
      List.filter_eq_nil_iff.2 fun i hi => by simpa using alone i (jobs ▸ hi)
    rw [State.purge, none]
    rfl
  unfold State.carryOut
  simp only
  simp only [empty (s.setRoute r _) rfl, State.setRoute_setRoute, State.route_setRoute_self, ← unheld]

section
variable (s : State) (b : BranchId) (j : Job) (r : RouteId)

/-- The job has left its queue and its route, and the engine is IDLE with the lines released. -/
def State.stopLeft : State :=
  (s.setBranch b { s.branch b with
    engine := .idle
    lines := ⟨true, true⟩
    busFree := false
    queue := (s.branch b).queue.filter fun i => i.slot ≠ j.slot }).setRoute r
      { s.route r with jobs := (s.route r).jobs - 1 }

theorem State.stopSent_delivered (st : Status) (opened : s.session = .opened) (branch : j.branch = b)
    (route : j.route = some r) (unanswered : j.owedTag = none) :
    ((s.stopSent b).delivered j st).setEngine b .idle = (s.stopLeft b j r).presenceOutcome r st j.addressAcked := by
  subst branch
  unfold State.delivered
  simp only [route, unanswered, State.setEngine_presenceOutcome]
  refine congrArg (State.presenceOutcome · r st j.addressAcked) ?_
  unfold State.stopLeft State.stopSent
  have session : (s.setBranch j.branch (s.branch j.branch).stopped).session ≠ .closing := by
    rw [State.setBranch_session, opened]
    decide
  simp only [session, false_and, if_false, List.append_nil, Nat.add_zero, State.setEngine_setRoute]
  rw [State.setEngine, State.branch_setBranch_self]
  show ((((s.setBranch j.branch _).setBranch j.branch _).setBranch j.branch _).setRoute r _) = _
  rw [State.setBranch_setBranch, State.setBranch_setBranch, State.branch_setBranch_self]
  rfl

end

/-- Settles O45: the end of a job on the wires is its deliveries, then what becomes of its route's late failure, then its
watch; with the engine IDLE these are the ends at the stop. -/
theorem unansweredJobsEndAtTheStop : Obligations.UnansweredJobsEndAtTheStop := by
  refine ⟨fun s b c j why st r conducts phase ends opened route unheld => ?_, fun s b c j st conducts _ cancel => ?_⟩
  · have branch := conducts.branch
    have runs := conducts.stops phase ends
    have noneWaits (h : j.CancelOwed) : (((s.stopSent b).delivered j st).route r).waiting = none :=
      (State.delivered_waiting _ j st h r).trans unheld
    refine ⟨fun tag post origin posted cancel => ?_, fun w origin => ?_⟩
    · have h : j.CancelOwed := fun _ _ _ => cancel
      have unanswered : j.owedTag = none := by simp [Job.owedTag, origin, posted]
      have left := s.stopSent_delivered b j r st opened branch route unanswered
      refine ⟨fun ok => ?_, fun fails alone => ?_⟩
      · rw [runs, State.endOnWires_quiet h route fun _ _ _ _ => ok, State.settleWaiting_none (noneWaits h),
          State.watchTakes_host origin, left]
        rfl
      · have jobs : ∀ i ∈ ((s.stopSent b).delivered j st).jobs, i.route ≠ some r := fun i hi same => by
          obtain ⟨member, other⟩ := conducts.stopSent.pool.delivered_jobs st h
            (State.mem_jobs.2 ⟨b, conducts.stopSent.member⟩) hi
          exact other (alone i (by rwa [s.stopSent_jobs b] at member) same)
        have free : ((s.stopSent b).delivered j st).routeOnWires r = false :=
          List.any_eq_false.2 fun i hi => by simp [jobs i hi]
        rw [runs, State.endOnWires_lateFailure (s := s.stopSent b) h route origin posted fails opened free,
          State.carryOut_alone jobs (noneWaits h), Route.discardsAhead_none (rt := (s.stopSent b).route r) unheld,
          State.setEngine_offer, State.setEngine_setRoute, left, ← State.setEngine_route _ b .idle, left]
        rfl
    · have h : j.CancelOwed := fun _ host => by simp [origin] at host
      have unanswered : j.owedTag = none := by simp [Job.owedTag, origin]
      rw [runs, State.endOnWires_quiet h route (fun _ _ host _ => by simp [origin] at host),
        State.settleWaiting_none (noneWaits h), State.watchTakes_watch origin, State.setEngine_pollEnds,
        s.stopSent_delivered b j r st opened branch route unanswered]
      rfl
  · have h : j.CancelOwed := fun _ _ => cancel
    refine ⟨fun none owed => ?_, fun r route alone => ?_⟩
    · obtain ⟨tag, origin, post⟩ := Job.owed_not_posted owed
      rw [State.endOnWires_eq h, State.postedEnds_quiet (fun _ p _ posted => by simp [post] at posted),
        State.settleRouteOf_none none, State.watchTakes_host origin]
    · have free := conducts.delivered_free (st := st) h alone
      refine ⟨fun owed => ?_, fun tag post origin posted => ⟨fun ok => ?_, fun fails opened => ?_, fun fails closing => ?_⟩,
        fun w origin => ?_⟩
      · obtain ⟨tag, origin, post⟩ := Job.owed_not_posted owed
        rw [State.endOnWires_quiet h route (fun _ p _ posted => by simp [post] at posted), State.settleWaiting_eq free,
          State.watchTakes_host origin]
      · rw [State.endOnWires_quiet h route fun _ _ _ _ => ok, State.settleWaiting_eq free, State.watchTakes_host origin]
      · exact State.endOnWires_lateFailure h route origin posted fails opened free
      · have notOpen : (s.delivered j st).session ≠ .opened := by
          rw [s.delivered_session j st h, closing]
          decide
        rw [State.endOnWires_eq h, State.postedEnds_fails origin posted route fails, if_neg notOpen,
          State.settleRouteOf_some route, State.watchTakes_host origin]
        exact State.settleWaiting_eq free
      · rw [State.endOnWires_quiet h route (fun _ _ host _ => by simp [origin] at host), State.settleWaiting_eq free,
          State.watchTakes_watch origin]

end Sys2Proof.Machine
end

section
/-! SUPPORT. The drain of a branch queue: the jobs that leave, the routes held, and the notices offered (R113 to R116). -/

namespace Sys2Proof.Machine

/-! ### Offers, with the tables left aside -/

/-- The state without what the drain of a queue changes besides its notices. -/
def State.core (s : State) : State :=
  { s with
    replies := []
    pendingResets := State.reset.pendingResets
    routes := State.reset.routes
    branches := State.reset.branches
    watches := State.reset.watches }

/-- A state is its core and what the core leaves aside. -/
theorem State.eq_of_core {s t : State} (h : t.core = s.core) : t = { s with
    replies := t.replies
    pendingResets := t.pendingResets
    routes := t.routes
    branches := t.branches
    watches := t.watches } := by
  have whole (u : State) : u = { u.core with
      replies := u.replies
      pendingResets := u.pendingResets
      routes := u.routes
      branches := u.branches
      watches := u.watches } := rfl
  rw [whole t, h]
  rfl

theorem State.offer_afterOffer (s : State) (x : NoticeBody) : s.offer x = s.afterOffer x := by
  unfold State.afterOffer
  rcases s.offer_cases x with ⟨notOpen, e⟩ | ⟨opened, full, e⟩ | ⟨opened, room, e⟩
  · rw [e, if_pos notOpen]
  · rw [e, if_neg (not_not.2 opened), if_pos full]
  · rw [e, if_neg (not_not.2 opened), if_neg (Nat.not_le.2 room)]
    rfl

theorem State.afterOffer_core (s : State) (x : NoticeBody) : (s.afterOffer x).core = s.core.afterOffer x := by
  unfold State.afterOffer
  simp only [apply_ite State.core]
  rfl

theorem State.foldl_afterOffer_core (l : List NoticeBody) (s : State) :
    (l.foldl State.afterOffer s).core = l.foldl State.afterOffer s.core :=
  foldl_commutes State.core _ State.afterOffer_core l s

theorem State.afterOffer_session (s : State) (x : NoticeBody) : (s.afterOffer x).session = s.session := by
  unfold State.afterOffer
  simp only [apply_ite State.session, ite_self]

theorem State.leave_core (s : State) (j : Job) : (s.leave j).core = s.core := by
  rw [State.leave_eq]
  rfl

theorem State.removeJob_core (s : State) (j : Job) : (s.removeJob j).core = s.core := by
  rw [State.removeJob_eq]
  rfl

/-! ### Late failures carried out -/

/-- A late failure carried out: its route, the job that failed, and the jobs discarded (R124). -/
structure LateFailure where
  route : RouteId
  failed : FailedPost
  discards : Discards

/-- The hold that it sets. -/
def LateFailure.record (x : LateFailure) : HoldRecord := ⟨x.failed.post, x.failed.status, x.discards.count⟩

/-- The notice that it offers. -/
def LateFailure.notice (x : LateFailure) : NoticeBody := .lateFault x.route x.failed x.discards

/-- The hold of the route, after late failures one after another. -/
def holdAfter (r : RouteId) (hold : Option HoldRecord) (late : List LateFailure) : Option HoldRecord :=
  late.foldl (fun h x => if x.route = r then some x.record else h) hold

/-- The replies of a job that ends BRANCH_DOWN. -/
def Job.downReplies (j : Job) : List Frame :=
  match j.owedTag with
  | none => []
  | some tag => endReplies j.withoutProgress tag .branchDown

/-- The jobs have left the pool in the drain: the owed ones answered, the late failures carried out, and nothing else. -/
structure Drained (l : List Job) (late : List LateFailure) (s t : State) : Prop where
  taken : TakenOut l s t
  core : t.core = (late.map LateFailure.notice).foldl State.afterOffer s.core
  replies : t.replies = s.replies ++ l.flatMap Job.downReplies
  resets : t.pendingResets = s.pendingResets
  holds : ∀ r, (t.route r).hold = holdAfter r (s.route r).hold late

theorem Drained.nil (s : State) : Drained [] [] s s := ⟨.nil s, rfl, by simp, rfl, fun _ => rfl⟩

theorem Drained.trans {l m : List Job} {late later : List LateFailure} {s t u : State} (h : Drained l late s t)
    (k : Drained m later t u) : Drained (l ++ m) (late ++ later) s u := by
  refine ⟨h.taken.trans k.taken, ?_, ?_, k.resets.trans h.resets, fun r => ?_⟩
  · rw [k.core, h.core, List.map_append, List.foldl_append]
  · rw [k.replies, h.replies, List.flatMap_append, List.append_assoc]
  · rw [k.holds, h.holds, holdAfter, holdAfter, holdAfter, List.foldl_append]

theorem Drained.session {l : List Job} {late : List LateFailure} {s t : State} (h : Drained l late s t) :
    t.session = s.session :=
  (congrArg State.session h.core).trans (State.foldl_keeps State.session _ State.afterOffer_session _ s.core)

/-- The order in which the jobs left does not matter, but for the replies. -/
theorem TakenOut.perm {l m : List Job} {s t : State} (h : TakenOut l s t) (perm : l.Perm m) : TakenOut m s t := by
  refine ⟨fun b => ?_, fun r => ?_, fun w => ?_⟩
  · have same (n : SlotId) : namesSlot m b n = namesSlot l b n := (perm.any_eq ..).symm
    simpa only [same] using h.branches b
  · rw [← perm.countP_eq]
    exact h.routes r
  · rw [← perm.any_eq]
    exact h.watches w

theorem Drained.perm {l m : List Job} {late : List LateFailure} {s t : State} (h : Drained l late s t)
    (perm : l.Perm m) (replies : l.flatMap Job.downReplies = m.flatMap Job.downReplies) : Drained m late s t :=
  ⟨h.taken.perm perm, h.core, by rw [← replies]; exact h.replies, h.resets, h.holds⟩

/-! ### One job leaves in the drain -/

/-- The TAG and the post number of a posted job. -/
def Job.posting (j : Job) : Option (Byte × Nat) :=
  match j.origin, j.post with
  | .host tag, some post => some (tag, post)
  | _, _ => none

theorem Job.posting_some {j : Job} {tag : Byte} {post : Nat} (h : j.posting = some (tag, post)) :
    j.origin = .host tag ∧ j.post = some post := by
  unfold Job.posting at h
  cases origin : j.origin <;> cases posted : j.post <;> simp_all

theorem Job.posting_silent {j : Job} (h : j.posting.isSome = true) : j.owedTag = none ∧ j.downReplies = [] := by
  obtain ⟨⟨tag, post⟩, h⟩ := Option.isSome_iff_exists.1 h
  obtain ⟨origin, posted⟩ := Job.posting_some h
  simp [Job.downReplies, Job.owedTag, origin, posted]

/-- A job that owes no reply is removed. -/
theorem Drained.removeJob {j : Job} (silent : j.downReplies = []) (s : State) : Drained [j] [] s (s.removeJob j) := by
  refine ⟨.removeJob s j, s.removeJob_core j, ?_, ?_, s.removeJob_hold j⟩
  · rw [State.removeJob_eq]
    simp [silent]
  · rw [State.removeJob_eq]

theorem Drained.foldl_removeJob : ∀ (l : List Job) (s : State), (∀ j ∈ l, j.downReplies = []) →
    Drained l [] s (l.foldl State.removeJob s)
  | [], s, _ => .nil s
  | j :: l, s, silent => (Drained.removeJob (silent j List.mem_cons_self) s).trans
      (Drained.foldl_removeJob l _ fun i hi => silent i (List.mem_cons_of_mem _ hi))

theorem Drained.leave {j : Job} (host : j.isHost = true) (s : State) :
    Drained [j] [] s { s.leave j with replies := s.replies ++ j.downReplies } := by
  refine ⟨.congr (.leave host) rfl rfl fun r => rfl, s.leave_core j, by simp, ?_, s.leave_hold j⟩
  rw [State.leave_eq]

/-- The first pass of the drain ends the owed jobs and removes the polls (R114). -/
theorem drainFirst_drained {s : State} (opened : s.session = .opened) (j : Job) :
    Drained ([j].filter fun j => !j.posting.isSome) [] s (drainFirst s j) := by
  unfold drainFirst Job.posting
  cases origin : j.origin with
  | watch w =>
    have silent : j.downReplies = [] := by simp [Job.downReplies, Job.owedTag, origin]
    simpa [origin] using Drained.removeJob silent s
  | host tag =>
    cases post : j.post with
    | some p => simpa [origin, post] using Drained.nil s
    | none =>
      have owed : j.withoutProgress.owedTag = some tag := by simp [Job.owedTag, Job.withoutProgress, origin, post]
      have host : j.isHost = true := by simp [Job.isHost, Job.isPoll, origin]
      have ends : s.endJob j.withoutProgress .branchDown = { s.leave j with replies := s.replies ++ j.downReplies } := by
        rw [State.endJob_owed owed, State.countCloseEnd_not_closing (by rw [opened]; decide),
          State.deliver_neutral s _ (fun _ _ none => by simp [owed] at none) rfl]
        rfl
      simpa [origin, post, ends] using Drained.leave host s

theorem foldl_drainFirst_drained : ∀ (l : List Job) {s : State}, s.session = .opened →
    Drained (l.filter fun j => !j.posting.isSome) [] s (l.foldl drainFirst s)
  | [], s, _ => .nil s
  | j :: l, s, opened => by
    have one := drainFirst_drained opened j
    have rest := foldl_drainFirst_drained l (one.session.trans opened)
    have both : (j :: l).filter (fun j => !j.posting.isSome) =
        [j].filter (fun j => !j.posting.isSome) ++ l.filter fun j => !j.posting.isSome := List.filter_append [j] l
    rw [both]
    exact one.trans rest

end Sys2Proof.Machine
end

section
/-! SUPPORT. The second pass of the drain: the first posted job of each route ends, and the purge discards the rest (R115,
R124, R125). -/

namespace Sys2Proof.Machine

/-! ### What the purge counts -/

/-- The posted jobs of the route, by their TAGs and post numbers. -/
def postsOf (q : List Job) (r : RouteId) : List (Byte × Nat) :=
  q.filterMap fun j => if j.route = some r then j.posting else none

/-- The posted jobs discarded after the first of their route, as R125 has them in a hold and in its notice. -/
def discardsOf (others : List (Byte × Nat)) : Discards :=
  ⟨others.length, match others.head?, others.getLast? with
    | some x, some y => some (x.2, y.2)
    | _, _ => none⟩

/-- One more post is counted. -/
def Discards.counts (d : Discards) (o : Byte × Nat) : Discards := d.add o.2

theorem foldl_add_some : ∀ (others : List (Byte × Nat)) {n : Nat} (x y : Nat), n + others.length ≤ 255 →
    others.foldl Discards.counts ⟨n, some (x, y)⟩ =
      ⟨n + others.length, some (x, (others.getLast?.map Prod.snd).getD y)⟩
  | [], _, _, _, _ => rfl
  | o :: others, n, x, y, few => by
    rw [List.length_cons] at few
    have one : Discards.counts ⟨n, some (x, y)⟩ o = ⟨n + 1, some (x, o.2)⟩ := by
      simp only [Discards.counts, Discards.add, bump, Config.countMax]
      rw [Nat.min_eq_left (by omega)]
    rw [List.foldl_cons, one, foldl_add_some others x o.2 (by omega), List.length_cons, List.getLast?_cons]
    cases others.getLast? <;> simp <;> omega

/-- Posts counted one after another, from none. -/
theorem foldl_add_none (others : List (Byte × Nat)) (few : others.length ≤ 255) :
    others.foldl Discards.counts Discards.none = discardsOf others := by
  cases others with
  | nil => rfl
  | cons o others =>
    have one : Discards.none.counts o = ⟨1, some (o.2, o.2)⟩ := rfl
    rw [List.length_cons] at few
    rw [List.foldl_cons, one, foldl_add_some others o.2 o.2 (by omega), discardsOf, List.head?_cons, List.getLast?_cons,
      List.length_cons, Nat.add_comm]
    cases others.getLast? <;> rfl

/-- The purge of posted jobs removes them and counts each. -/
theorem foldl_purgeOne_posted : ∀ (l : List Job) (acc : State × Discards), (∀ j ∈ l, j.posting.isSome = true) →
    l.foldl purgeOne acc =
      (l.foldl State.removeJob acc.1, (l.filterMap Job.posting).foldl Discards.counts acc.2)
  | [], _, _ => rfl
  | j :: l, acc, posted => by
    obtain ⟨⟨tag, post⟩, h⟩ := Option.isSome_iff_exists.1 (posted j List.mem_cons_self)
    have one : purgeOne acc j = (acc.1.removeJob j, acc.2.add post) := by
      obtain ⟨origin, posts⟩ := Job.posting_some h
      simp only [purgeOne, origin, posts]
    rw [List.foldl_cons, one, foldl_purgeOne_posted l _ fun i hi => posted i (List.mem_cons_of_mem _ hi), List.foldl_cons,
      List.filterMap_cons_some h, List.foldl_cons]
    rfl

/-! ### A branch under recovery -/

/-- What R57, R64 and R127 say of the queue of a branch under recovery: no job of it is on the wires or has a CANCEL
deferred, no late failure of their routes waits, and those routes have no job elsewhere. -/
def UnderRecovery (s : State) (b : BranchId) : Prop :=
  ∀ j ∈ (s.branch b).queue, j.onWires = false ∧ j.cancelTag = none ∧ ∀ q, j.route = some q →
    (s.route q).waiting = none ∧ ∀ i ∈ s.jobs, i.route = some q → i.branch = b

theorem TakenOut.pool {l : List Job} {s t : State} (h : TakenOut l s t) (law : PoolLaw s) : PoolLaw t :=
  law.of_identities fun b => by
    rw [State.identities, h.branches]
    exact List.filter_sublist.map _

theorem TakenOut.mem {l : List Job} {s t : State} (h : TakenOut l s t) {b : BranchId} {j : Job}
    (hj : j ∈ (t.branch b).queue) : j ∈ (s.branch b).queue := by
  rw [h.branches] at hj
  exact List.mem_of_mem_filter hj

theorem TakenOut.mem_jobs {l : List Job} {s t : State} (h : TakenOut l s t) {j : Job} (hj : j ∈ t.jobs) : j ∈ s.jobs := by
  obtain ⟨k, hk⟩ := State.mem_jobs.1 hj
  exact State.mem_jobs.2 ⟨k, h.mem hk⟩

theorem TakenOut.underRecovery {l : List Job} {s t : State} (h : TakenOut l s t) {b : BranchId}
    (under : UnderRecovery s b) : UnderRecovery t b := by
  intro j hj
  obtain ⟨wires, cancel, route⟩ := under j (h.mem hj)
  refine ⟨wires, cancel, fun q hq => ?_⟩
  obtain ⟨waiting, own⟩ := route q hq
  refine ⟨?_, fun i hi => own i (h.mem_jobs hi)⟩
  rw [h.routes]
  exact waiting

section
variable {s : State} {b : BranchId} {r : RouteId} (law : PoolLaw s)
  (own : ∀ i ∈ s.jobs, i.route = some r → i.branch = b)
include law own

/-- The jobs of a route that has jobs in one queue only. -/
theorem PoolLaw.route_jobs : (s.jobs.filter fun j => decide (j.route = some r)) =
    (s.branch b).queue.filter fun j => decide (j.route = some r) := by
  have elsewhere : ∀ k : BranchId, k ≠ b → ((s.branch k).queue.filter fun j => decide (j.route = some r)) = [] :=
    fun k away => List.filter_eq_nil_iff.2 fun i hi route => away (by
      rw [← law.placed k i hi]
      exact own i (State.mem_jobs.2 ⟨k, hi⟩) (of_decide_eq_true route))
  have parts : (s.jobs.filter fun j => decide (j.route = some r)) =
      (List.finRange 4).flatMap fun k => if k = b then (s.branch b).queue.filter fun j => decide (j.route = some r)
        else [] := by
    rw [State.jobs_eq, List.filter_flatMap]
    refine List.flatMap_congr fun k _ => ?_
    split
    · next e => rw [e]
    · next away => exact elsewhere k away
  rw [parts]
  match b with
  | 0 | 1 | 2 | 3 => simp [List.finRange_succ]

/-- A late failure of a route is carried out: its jobs, all of them posted, are discarded (R124, R125). -/
theorem PoolLaw.carryOut_drained (posted : ∀ j ∈ (s.branch b).queue, j.posting.isSome = true)
    (waiting : (s.route r).waiting = none) (f : FailedPost) :
    Drained ((s.branch b).queue.filter fun j => decide (j.route = some r))
      [⟨r, f, discardsOf (postsOf (s.branch b).queue r)⟩] s (s.carryOut r f Discards.none) := by
  have jobs := law.route_jobs own
  have few : (postsOf (s.branch b).queue r).length ≤ 255 := by
    have counted : postsOf (s.branch b).queue r =
        ((s.jobs.filter fun j => decide (j.route = some r)).filterMap Job.posting) := by
      rw [jobs, List.filterMap_filter]
      simp only [postsOf, decide_eq_true_eq]
    rw [counted]
    exact (List.length_filterMap_le ..).trans ((List.length_filter_le ..).trans (law.length_le.trans (by decide)))
  have all : ∀ j ∈ (s.branch b).queue.filter (fun j => decide (j.route = some r)), j.posting.isSome = true :=
    fun j hj => posted j (List.mem_of_mem_filter hj)
  have purged (v : Route) : (s.setRoute r v).purge r Discards.none =
      (((s.branch b).queue.filter fun j => decide (j.route = some r)).foldl State.removeJob (s.setRoute r v),
        discardsOf (postsOf (s.branch b).queue r)) := by
    have same : (s.setRoute r v).jobs = s.jobs := rfl
    rw [State.purge, same, jobs, foldl_purgeOne_posted _ _ all, List.filterMap_filter, ← foldl_add_none _ few]
    simp only [postsOf, decide_eq_true_eq]
  have silent : ∀ j ∈ (s.branch b).queue.filter (fun j => decide (j.route = some r)), j.downReplies = [] :=
    fun j hj => (Job.posting_silent (all j hj)).2
  unfold State.carryOut
  simp only [purged]
  generalize hv : ({ s.route r with hold := some ⟨f.post, f.status, 0⟩, waiting := none } : Route) = v
  generalize hd : discardsOf (postsOf (s.branch b).queue r) = d
  have away := Drained.foldl_removeJob _ (s.setRoute r v) silent
  generalize ((s.branch b).queue.filter fun j => decide (j.route = some r)).foldl State.removeJob
    (s.setRoute r v) = t at away
  have held (q : RouteId) : (s.setRoute r v).route q = { s.route q with hold := ((s.setRoute r v).route q).hold } := by
    rw [State.route_setRoute, ← hv, ← waiting]
    split
    · next e => rw [e]
    · rfl
  have after (q : RouteId) : ((t.setRoute r { t.route r with hold := some ⟨f.post, f.status, d.count⟩ }).offer
      (.lateFault r f d)).route q = { t.route q with
        hold := if r = q then some ⟨f.post, f.status, d.count⟩ else (t.route q).hold } := by
    rw [State.route, State.offer_routes]
    refine (State.route_setRoute ..).trans ?_
    split
    · next e => rw [e]
    · rfl
  have begun : TakenOut [] s (s.setRoute r v) := (TakenOut.nil s).congr rfl rfl held
  refine ⟨(begun.trans away.taken).congr (by simp) (by simp) fun q => ?_, ?_, ?_, ?_, fun q => ?_⟩
  · rw [after]
  · rw [State.offer_afterOffer, State.afterOffer_core]
    exact congrArg (State.afterOffer · _) away.core
  · rw [State.offer_replies]
    exact away.replies
  · rw [State.offer_pendingResets]
    exact away.resets
  · rw [after, away.holds, State.route_setRoute]
    simp only [holdAfter, List.foldl_cons, List.foldl_nil, LateFailure.record]
    split
    · rfl
    · simp

end

end Sys2Proof.Machine
end

section
/-! SUPPORT. The second pass of the drain, job by job (R115). -/

namespace Sys2Proof.Machine

/-! ### The end of one posted job in the drain -/

theorem State.leave_posted (s : State) {j : Job} (posted : j.posting.isSome = true) :
    { s.leave j with replies := s.replies ++ j.downReplies } = s.leave j := by
  rw [(Job.posting_silent posted).2, List.append_nil, State.leave_eq]

theorem Job.posting_isHost {j : Job} (posted : j.posting.isSome = true) : j.isHost = true := by
  obtain ⟨⟨tag, post⟩, h⟩ := Option.isSome_iff_exists.1 posted
  obtain ⟨origin, -⟩ := Job.posting_some h
  simp [Job.isHost, Job.isPoll, origin]

theorem Drained.leave_posted (s : State) {j : Job} (posted : j.posting.isSome = true) : Drained [j] [] s (s.leave j) := by
  have left := Drained.leave (Job.posting_isHost posted) s
  rwa [s.leave_posted posted] at left

/-- The end of a posted job up to its late failure. -/
theorem State.endJob_posted {s : State} (opened : s.session = .opened) {j : Job} {tag : Byte} {post : Nat}
    (h : j.posting = some (tag, post)) (cancel : j.cancelTag = none) :
    s.endJob j.withoutProgress .branchDown = (s.leave j).postedEnds j.withoutProgress .branchDown := by
  have posted : j.posting.isSome = true := by rw [h]; rfl
  obtain ⟨origin, -⟩ := Job.posting_some h
  have delivers : s.deliver j.withoutProgress .branchDown = s.leave j :=
    (s.deliver_neutral j.withoutProgress (fun _ _ _ => cancel) rfl).trans (s.leave_posted posted)
  rw [State.endJob, State.endDelivered, State.countCloseEnd_not_closing (by rw [opened]; decide), delivers,
    State.watchTakes_host (j := j.withoutProgress) origin]

section
variable {s : State} {b : BranchId} {j : Job} (law : PoolLaw s) (under : UnderRecovery s b) (opened : s.session = .opened)
  (all : ∀ j ∈ (s.branch b).queue, j.posting.isSome = true) (hj : j ∈ (s.branch b).queue)
include under opened hj

/-- A posted job with no route just leaves. -/
theorem UnderRecovery.ends_unrouted (posted : j.posting.isSome = true) (route : j.route = none) :
    Drained [j] [] s (s.endJob j.withoutProgress .branchDown) := by
  obtain ⟨⟨tag, post⟩, h⟩ := Option.isSome_iff_exists.1 posted
  obtain ⟨-, cancel, -⟩ := under j hj
  have quiet : (s.leave j).postedEnds j.withoutProgress .branchDown = s.leave j := by
    have none : j.withoutProgress.route = none := route
    unfold State.postedEnds
    rw [none]
    split <;> simp_all
  rw [State.endJob_posted opened h cancel, quiet]
  exact .leave_posted s posted

include law all

/-- A posted job holds its route, and the other jobs of the route are discarded (R115). -/
theorem UnderRecovery.ends_routed {tag : Byte} {post : Nat} {r : RouteId} (h : j.posting = some (tag, post))
    (route : j.route = some r) :
    Drained (j :: (((s.branch b).queue.filter fun i => i.slot ≠ j.slot).filter fun i => decide (i.route = some r)))
      [⟨r, ⟨tag, post, .branchDown, 0⟩, discardsOf (postsOf ((s.branch b).queue.filter fun i => i.slot ≠ j.slot) r)⟩] s
      (s.endJob j.withoutProgress .branchDown) := by
  have posted : j.posting.isSome = true := by rw [h]; rfl
  have left := Drained.leave_posted s posted
  obtain ⟨origin, posts⟩ := Job.posting_some h
  obtain ⟨-, cancel, ofRoute⟩ := under j hj
  obtain ⟨waiting, own⟩ := ofRoute r route
  have unwaiting : ((s.leave j).route r).waiting = none := by
    rw [State.leave_route]
    exact waiting
  have ownLeft : ∀ i ∈ (s.leave j).jobs, i.route = some r → i.branch = b := fun i hi => own i (left.taken.mem_jobs hi)
  have free : (s.leave j).routeOnWires r = false := by
    refine List.any_eq_false.2 fun i hi => ?_
    rw [Bool.and_eq_true, decide_eq_true_eq]
    rintro ⟨routed, wires⟩
    have member := left.taken.mem_jobs hi
    have queue := law.mem_queue member
    rw [own i member routed] at queue
    obtain ⟨waits, -⟩ := under i queue
    simp [waits] at wires
  have queue : ((s.leave j).branch b).queue = (s.branch b).queue.filter fun i => i.slot ≠ j.slot := by
    rw [(s.leave_loses j).queue, if_pos (law.placed b j hj)]
  have purged := (left.taken.pool law).carryOut_drained ownLeft (fun i hi => all i (left.taken.mem hi)) unwaiting
    ⟨tag, post, .branchDown, 0⟩
  have ends : (s.leave j).postedEnds j.withoutProgress .branchDown =
      (s.leave j).carryOut r ⟨tag, post, .branchDown, 0⟩ Discards.none := by
    have session : (s.leave j).session = .opened := left.session.trans opened
    rw [State.postedEnds_fails (j := j.withoutProgress) origin posts route (by decide), if_pos session,
      State.lateFailure_free free, Route.discardsAhead_none unwaiting]
    rfl
  rw [queue] at purged
  rw [State.endJob_posted opened h cancel, ends]
  exact left.trans purged

end

/-! ### The second pass -/

/-- The job's route is none of those held already. -/
def Job.unheld (seen : List RouteId) (j : Job) : Bool :=
  match j.route with
  | none => true
  | some r => decide (r ∉ seen)

/-- The routes that are not among those seen, each at its first place. -/
def newRoutes : List RouteId → List RouteId → List RouteId
  | _, [] => []
  | seen, r :: rs => if r ∈ seen then newRoutes seen rs else r :: newRoutes (seen ++ [r]) rs

theorem foldl_seen : ∀ (rs seen : List RouteId),
    rs.foldl (fun seen q => if q ∈ seen then seen else seen ++ [q]) seen = seen ++ newRoutes seen rs
  | [], seen => (List.append_nil seen).symm
  | r :: rs, seen => by
    rw [List.foldl_cons, foldl_seen rs, newRoutes]
    split
    · rfl
    · rw [List.append_assoc]
      rfl

theorem mem_newRoutes : ∀ {rs seen : List RouteId} {r : RouteId}, r ∈ newRoutes seen rs ↔ r ∈ rs ∧ r ∉ seen
  | [], _, _ => by simp [newRoutes]
  | q :: rs, seen, r => by
    rw [newRoutes]
    split
    · next old =>
      rw [mem_newRoutes, List.mem_cons]
      constructor
      · exact fun ⟨mem, fresh⟩ => ⟨.inr mem, fresh⟩
      · exact fun ⟨mem, fresh⟩ => ⟨mem.resolve_left fun e => fresh (e ▸ old), fresh⟩
    · next fresh =>
      rw [List.mem_cons, mem_newRoutes, List.mem_cons, List.mem_append, List.mem_singleton]
      constructor
      · rintro (rfl | ⟨mem, other⟩)
        · exact ⟨.inl rfl, fresh⟩
        · exact ⟨.inr mem, fun old => other (.inl old)⟩
      · rintro ⟨mem, new⟩
        by_cases e : r = q
        · exact .inl e
        · exact .inr ⟨mem.resolve_left e, fun old => old.elim new e⟩

/-- The late failure of a route whose posted jobs wait in the queue: the first ends BRANCH_DOWN, and the others are
discarded (R115). -/
def lateOf (q : List Job) (r : RouteId) : Option LateFailure :=
  match postsOf q r with
  | [] => none
  | first :: others => some ⟨r, ⟨first.1, first.2, .branchDown, 0⟩, discardsOf others⟩

theorem lateOf_cons_other {j : Job} {r : RouteId} (h : j.route ≠ some r) (q : List Job) :
    lateOf (j :: q) r = lateOf q r := by
  simp [lateOf, postsOf, h]

theorem lateOf_cons {j : Job} {r : RouteId} {tag : Byte} {post : Nat} (route : j.route = some r)
    (h : j.posting = some (tag, post)) (q : List Job) :
    lateOf (j :: q) r = some ⟨r, ⟨tag, post, .branchDown, 0⟩, discardsOf (postsOf q r)⟩ := by
  simp [lateOf, postsOf, route, h]

/-- The late failures of the queue, in the order of their first jobs. -/
def latesOf (seen : List RouteId) (q : List Job) : List LateFailure :=
  (newRoutes seen (q.filterMap Job.route)).filterMap (lateOf q)

/-- A job of a route held already, or of none, adds no late failure. -/
theorem latesOf_cons_old {j : Job} {seen : List RouteId} (old : ∀ r, j.route = some r → r ∈ seen) (q : List Job) :
    latesOf seen (j :: q) = latesOf seen q := by
  have routes : newRoutes seen ((j :: q).filterMap Job.route) = newRoutes seen (q.filterMap Job.route) := by
    cases route : j.route with
    | none => rw [List.filterMap_cons_none route]
    | some r => rw [List.filterMap_cons_some route, newRoutes, if_pos (old r route)]
  rw [latesOf, latesOf, routes]
  refine List.filterMap_congr fun r hr => lateOf_cons_other (fun route => ?_) q
  exact (mem_newRoutes.1 hr).2 (old r route)

/-- The first job of a new route adds the route's late failure. -/
theorem latesOf_cons_new {j : Job} {seen : List RouteId} {r : RouteId} {tag : Byte} {post : Nat}
    (route : j.route = some r) (new : r ∉ seen) (h : j.posting = some (tag, post)) (q : List Job) :
    latesOf seen (j :: q) =
      ⟨r, ⟨tag, post, .branchDown, 0⟩, discardsOf (postsOf q r)⟩ :: latesOf (seen ++ [r]) q := by
  rw [latesOf, List.filterMap_cons_some route, newRoutes, if_neg new, List.filterMap_cons_some (lateOf_cons route h q)]
  refine congrArg _ (List.filterMap_congr fun k hk => lateOf_cons_other (fun same => ?_) q)
  have fresh := (mem_newRoutes.1 hk).2
  rw [route] at same
  cases same
  exact fresh (by simp)

theorem Job.unheld_append (seen : List RouteId) (r : RouteId) (j : Job) :
    j.unheld (seen ++ [r]) = (j.unheld seen && !decide (j.route = some r)) := by
  unfold Job.unheld
  cases j.route with
  | none => rfl
  | some q => simp

/-- The jobs left once a further route has been held. -/
theorem filter_unheld_append (seen : List RouteId) (r : RouteId) (l : List Job) :
    ((l.filter (Job.unheld seen)).filter fun i => !decide (i.route = some r)) = l.filter (Job.unheld (seen ++ [r])) := by
  rw [List.filter_filter]
  exact List.filter_congr fun i _ => by rw [Job.unheld_append, Bool.and_comm]

/-- The posted jobs of a route not held yet are all there. -/
theorem postsOf_unheld {seen : List RouteId} {r : RouteId} (new : r ∉ seen) (q : List Job) :
    postsOf (q.filter (Job.unheld seen)) r = postsOf q r := by
  rw [postsOf, List.filterMap_filter]
  refine List.filterMap_congr fun j _ => ?_
  by_cases route : j.route = some r
  · simp [Job.unheld, route, new]
  · simp [route]

/-- A stage of the second pass: the jobs to be looked at are posted, and the queue holds those of them whose routes have
not been held yet. -/
structure DrainStage (b : BranchId) (seen : List RouteId) (l : List Job) (s : State) : Prop where
  pool : PoolLaw s
  under : UnderRecovery s b
  opened : s.session = .opened
  posted : ∀ j ∈ l, j.posting.isSome = true
  placed : ∀ j ∈ l, j.branch = b
  slots : (l.map (·.slot)).Nodup
  queue : (s.branch b).queue = l.filter (Job.unheld seen)

section
variable {b : BranchId} {seen : List RouteId} {j : Job} {l : List Job} {s : State} (h : DrainStage b seen (j :: l) s)
include h

theorem DrainStage.next {t : State} {gone : List Job} {late : List LateFailure} {held : List RouteId}
    (d : Drained gone late s t) (queue : (t.branch b).queue = l.filter (Job.unheld held)) : DrainStage b held l t :=
  ⟨d.taken.pool h.pool, d.taken.underRecovery h.under, d.session.trans h.opened,
    fun i hi => h.posted i (List.mem_cons_of_mem _ hi), fun i hi => h.placed i (List.mem_cons_of_mem _ hi),
    (List.nodup_cons.1 h.slots).2, queue⟩

theorem DrainStage.other_slot {i : Job} (hi : i ∈ l) : i.slot ≠ j.slot := fun same =>
  (List.nodup_cons.1 h.slots).1 (List.mem_map.2 ⟨i, hi, same⟩)

/-- A job that the purge of its route has taken is skipped. -/
theorem DrainStage.absent (held : j.unheld seen = false) : drainSecond b s j = s ∧ DrainStage b seen l s := by
  have queue : (s.branch b).queue = l.filter (Job.unheld seen) := by
    rw [h.queue, List.filter_cons_of_neg (by rw [held]; decide)]
  refine ⟨if_neg fun present => ?_, h.next (.nil s) queue⟩
  obtain ⟨i, member, same⟩ := List.any_eq_true.1 present
  rw [queue] at member
  exact h.other_slot (List.mem_of_mem_filter member) (beq_iff_eq.1 same)

/-- A job whose route has not been held is at the head of the queue, and ends. -/
theorem DrainStage.present (unheld : j.unheld seen = true) :
    (s.branch b).queue = j :: l.filter (Job.unheld seen) ∧
      ((s.branch b).queue.filter fun i => i.slot ≠ j.slot) = l.filter (Job.unheld seen) ∧
      drainSecond b s j = s.endJob j.withoutProgress .branchDown := by
  have queue : (s.branch b).queue = j :: l.filter (Job.unheld seen) := by
    rw [h.queue, List.filter_cons_of_pos unheld]
  refine ⟨queue, ?_, if_pos (List.any_eq_true.2 ⟨j, queue ▸ List.mem_cons_self, beq_self_eq_true j.slot⟩)⟩
  rw [queue, List.filter_cons_of_neg (by simp), List.filter_eq_self]
  exact fun i hi => by simpa using h.other_slot (List.mem_of_mem_filter hi)

theorem DrainStage.unrouted (route : j.route = none) :
    Drained [j] [] s (drainSecond b s j) ∧ DrainStage b seen l (drainSecond b s j) := by
  obtain ⟨queue, behind, ends⟩ := h.present (by simp [Job.unheld, route])
  have one := h.under.ends_unrouted h.opened (queue ▸ List.mem_cons_self) (h.posted j List.mem_cons_self) route
  have named (i : Job) : namesSlot [j] b i.slot = decide (i.slot = j.slot) := by
    simp [namesSlot, h.placed j List.mem_cons_self, eq_comm]
  rw [ends]
  refine ⟨one, h.next one ?_⟩
  rw [one.taken.branches, ← behind]
  simp only [named, ← decide_not]

theorem DrainStage.routed {r : RouteId} {tag : Byte} {post : Nat} (route : j.route = some r) (new : r ∉ seen)
    (posting : j.posting = some (tag, post)) :
    Drained (j :: (l.filter (Job.unheld seen)).filter fun i => decide (i.route = some r))
        [⟨r, ⟨tag, post, .branchDown, 0⟩, discardsOf (postsOf l r)⟩] s (drainSecond b s j) ∧
      DrainStage b (seen ++ [r]) l (drainSecond b s j) := by
  obtain ⟨queue, behind, ends⟩ := h.present (by simpa [Job.unheld, route] using new)
  have member : j ∈ (s.branch b).queue := queue ▸ List.mem_cons_self
  obtain ⟨-, -, ofRoute⟩ := h.under j member
  obtain ⟨-, own⟩ := ofRoute r route
  have one := h.under.ends_routed h.pool h.opened
    (fun i hi => h.posted i (List.mem_of_mem_filter (p := Job.unheld seen) (h.queue ▸ hi))) member posting route
  rw [behind, postsOf_unheld new] at one
  have gone : j :: (l.filter (Job.unheld seen)).filter (fun i => decide (i.route = some r)) =
      s.jobs.filter fun i => decide (i.route = some r) := by
    rw [h.pool.route_jobs own, queue, List.filter_cons_of_pos (by simpa using route)]
  have named : ∀ i ∈ (s.branch b).queue,
      (!namesSlot (s.jobs.filter fun i => decide (i.route = some r)) b i.slot) = !decide (i.route = some r) :=
    fun i hi => by rw [h.pool.namesSlot_filter _ hi]
  rw [ends]
  refine ⟨one, h.next one ?_⟩
  rw [one.taken.branches, gone, List.filter_congr named, queue, List.filter_cons_of_neg (by simp [route]),
    filter_unheld_append]

end

/-- The second pass of the drain over posted jobs, those of the routes held already having left (R115). -/
theorem foldl_drainSecond_drained {b : BranchId} : ∀ (l : List Job) (seen : List RouteId) {s : State},
    DrainStage b seen l s → Drained (l.filter (Job.unheld seen)) (latesOf seen l) s (l.foldl (drainSecond b) s)
  | [], _, s, _ => .nil s
  | j :: l, seen, s, h => by
    rw [List.foldl_cons]
    cases unheld : j.unheld seen with
    | false =>
      obtain ⟨skips, stage⟩ := h.absent unheld
      rw [skips, List.filter_cons_of_neg (by rw [unheld]; decide),
        latesOf_cons_old fun r route => by simpa [Job.unheld, route] using unheld]
      exact foldl_drainSecond_drained l seen stage
    | true =>
      rw [List.filter_cons_of_pos unheld]
      cases route : j.route with
      | none =>
        obtain ⟨one, stage⟩ := h.unrouted route
        rw [latesOf_cons_old fun r some => by simp [route] at some]
        exact one.trans (foldl_drainSecond_drained l seen stage)
      | some r =>
        obtain ⟨⟨tag, post⟩, posting⟩ := Option.isSome_iff_exists.1 (h.posted j List.mem_cons_self)
        have new : r ∉ seen := by simpa [Job.unheld, route] using unheld
        obtain ⟨one, stage⟩ := h.routed route new posting
        rw [latesOf_cons_new route new posting]
        have perm : (j :: (l.filter (Job.unheld seen)).filter (fun i => decide (i.route = some r)) ++
            l.filter (Job.unheld (seen ++ [r]))).Perm (j :: l.filter (Job.unheld seen)) := by
          rw [← filter_unheld_append]
          exact (List.filter_append_perm _ _).cons j
        have within : j :: l.filter (Job.unheld seen) ⊆ j :: l := List.cons_subset_cons j List.filter_sublist.subset
        have silent : ∀ i ∈ j :: l.filter (Job.unheld seen), i.downReplies = [] := fun i hi =>
          (Job.posting_silent (h.posted i (within hi))).2
        refine (one.trans (foldl_drainSecond_drained l _ stage)).perm perm ?_
        rw [List.flatMap_eq_nil_iff.2 silent, List.flatMap_eq_nil_iff.2 fun i hi => silent i (perm.mem_iff.1 hi)]

end Sys2Proof.Machine
end

section
/-! SUPPORT. The failure of a recovery (R113 to R119). -/

namespace Sys2Proof.Machine

/-! ### The drain of a branch queue -/

/-- The late failures of a branch queue that is drained. -/
def drainLates (q : List Job) : List LateFailure := latesOf [] (q.filter fun j => j.posting.isSome)

theorem posted_silent (q : List Job) : (q.filter fun j => j.posting.isSome).flatMap Job.downReplies = [] :=
  List.flatMap_eq_nil_iff.2 fun _ hj => (Job.posting_silent (List.mem_filter.1 hj).2).2

/-- Only the jobs that are not posted are answered. -/
theorem owed_downReplies : ∀ q : List Job,
    (q.filter fun j => !j.posting.isSome).flatMap Job.downReplies = q.flatMap Job.downReplies
  | [] => rfl
  | j :: q => by
    by_cases posted : j.posting.isSome = true
    · rw [List.filter_cons_of_neg (by rw [posted]; decide), List.flatMap_cons, (Job.posting_silent posted).2,
        List.nil_append, owed_downReplies q]
    · rw [List.filter_cons_of_pos (by simp [Bool.eq_false_of_not_eq_true posted]), List.flatMap_cons, List.flatMap_cons,
        owed_downReplies q]

/-- The drain empties the queue (R114, R115). -/
theorem State.drain_drained {s : State} {b : BranchId} (law : PoolLaw s) (under : UnderRecovery s b)
    (opened : s.session = .opened) :
    Drained (s.branch b).queue (drainLates (s.branch b).queue) s (s.drain b) := by
  have first := foldl_drainFirst_drained (s.branch b).queue opened
  have queue : (((s.branch b).queue.foldl drainFirst s).branch b).queue =
      (s.branch b).queue.filter fun j => j.posting.isSome := by
    rw [first.taken.branches]
    exact List.filter_congr fun i hi => by
      rw [namesSlot_picked (law.queue_slots b) _ hi (law.placed b i hi), Bool.not_not]
  have unheld (l : List Job) : l.filter (Job.unheld []) = l :=
    List.filter_eq_self.2 fun j _ => by cases route : j.route <;> simp [Job.unheld, route]
  have pool := first.taken.pool law
  have stage : DrainStage b [] (((s.branch b).queue.foldl drainFirst s).branch b).queue _ :=
    ⟨pool, first.taken.underRecovery under, first.session.trans opened,
      fun j hj => by rw [queue] at hj; exact (List.mem_filter.1 hj).2, pool.placed b, pool.queue_slots b, (unheld _).symm⟩
  have second := foldl_drainSecond_drained _ [] stage
  rw [unheld] at second
  have both : Drained _ (latesOf [] _) s (s.drain b) := first.trans second
  rw [queue] at both
  refine both.perm (List.perm_append_comm.trans (List.filter_append_perm _ _)) ?_
  rw [List.flatMap_append, posted_silent, List.append_nil, owed_downReplies]

/-! ### The pending BRANCH_RESET -/

/-- The reply to a BRANCH_RESET whose recovery failed. -/
def resetFailed (b : BranchId) : Option Byte → List Frame
  | none => []
  | some tag => [⟨0x9A, tag, [0x44, byte b.val]⟩]

theorem State.answerBranchReset_eq (s : State) (b : BranchId) : s.answerBranchReset b .busFault =
    { s with
      replies := s.replies ++ resetFailed b (s.pendingReset b)
      pendingResets := (s.answerBranchReset b .busFault).pendingResets } := by
  unfold State.answerBranchReset
  cases s.pendingReset b with
  | none => simp [resetFailed]
  | some tag => rfl

theorem State.answerBranchReset_pendingReset (s : State) (b : BranchId) (st : Status) (k : BranchId) :
    (s.answerBranchReset b st).pendingReset k = if k = b then none else s.pendingReset k := by
  unfold State.answerBranchReset
  split
  · next none =>
    split
    · next e => rw [e, none]
    · rfl
  · rw [State.pushReply_pendingReset, State.pendingReset_setPendingReset]
    simp only [eq_comm]

/-! ### The failure -/

/-- The state with the branch ISOLATED, its lines as they were found. -/
def State.isolatedAt (s : State) (b : BranchId) (lines : Lines) (busFree : Bool) : State :=
  s.setBranch b { s.branch b with
    engine := .isolated
    isolations := min ((s.branch b).isolations + 1) 65535
    lines := lines
    busFree := busFree }

/-- Each command that makes a recovery fail isolates the branch, drains it, answers a pending BRANCH_RESET and offers the
ISOLATED notice (R113 to R119). -/
theorem State.failsBy_exec {s : State} {b : BranchId} {r : Recovery} {c : Instr}
    (engine : (s.branch b).engine = .recovering r) (fails : s.failsBy b r c) : ∃ lines busFree, exec c s =
      .next ((((s.isolatedAt b lines busFree).drain b).answerBranchReset b .busFault).offer
        (.branch b .isolated r.cause.status ((s.branch b).queue.countP Job.isHost))) := by
  have recovery : s.recovery b = some r := by
    unfold State.recovery
    rw [engine]
  have isolates (lines : Lines) (busFree : Bool) :
      (s.setBranch b { s.branch b with lines := lines, busFree := busFree }).recoveryFails b r.cause =
        (((s.isolatedAt b lines busFree).drain b).answerBranchReset b .busFault).offer
          (.branch b .isolated r.cause.status ((s.branch b).queue.countP Job.isHost)) := by
    unfold State.recoveryFails
    simp only [State.branch_setBranch_self, State.setBranch_setBranch]
    rfl
  suffices sees : ∃ lines busFree, exec c s =
      .next ((s.setBranch b { s.branch b with lines := lines, busFree := busFree }).recoveryFails b r.cause) by
    obtain ⟨lines, busFree, runs⟩ := sees
    exact ⟨lines, busFree, runs.trans (congrArg Host.Outcome.next (isolates lines busFree))⟩
  rcases fails with ⟨rfl, step, i, clock, due⟩ | ⟨rfl, step, last⟩ | ⟨rfl, step, x, stuck, due⟩
  · have isDue : clockDue r.clock s.now = true := by simp [clock, clockDue, Interval.due, due]
    refine ⟨⟨false, (s.branch b).lines.dataHigh⟩,
      ((s.branch b).see ⟨false, (s.branch b).lines.dataHigh⟩).busFree, ?_⟩
    show execRecoveryClockIntervalExpires b s = _
    unfold execRecoveryClockIntervalExpires
    simp only [recovery]
    rw [if_pos ⟨step, isDue⟩]
    rfl
  · refine ⟨⟨true, false⟩, false, ?_⟩
    show execRecoveryPulseDone b false s = _
    unfold execRecoveryPulseDone
    simp only [recovery]
    rw [if_pos step, if_pos ⟨trivial, last⟩]
    rfl
  · have isDue : stuckDue r.stuck s.now = true := by simp [stuck, stuckDue, Interval.due, due]
    have same : s.setBranch b (s.branch b) = s := by simp [State.setBranch, State.branch]
    refine ⟨(s.branch b).lines, (s.branch b).busFree, ?_⟩
    show execStuckLineIntervalExpires b s = .next ((s.setBranch b (s.branch b)).recoveryFails b r.cause)
    unfold execStuckLineIntervalExpires
    rw [same]
    simp only [engine]
    rw [if_pos ⟨step, isDue⟩]

end Sys2Proof.Machine
end

section
/-! SUPPORT. The late failures of a drained queue, as FailedRecoveryDrainsTheQueue writes them (R115, R116). -/

namespace Sys2Proof.Machine

/-! ### The late failures, route by route -/

theorem lateOf_route {q : List Job} {r : RouteId} {x : LateFailure} (h : lateOf q r = some x) : x.route = r := by
  unfold lateOf at h
  split at h
  · cases h
  · cases h
    rfl

/-- Only the late failure of the route itself counts for its hold. -/
theorem holdAfter_lates (q : List Job) (r : RouteId) : ∀ (routes : List RouteId) (hold : Option HoldRecord),
    holdAfter r hold (routes.filterMap (lateOf q)) =
      if r ∈ routes then ((lateOf q r).map LateFailure.record).or hold else hold
  | [], _ => rfl
  | k :: routes, hold => by
    cases late : lateOf q k with
    | none =>
      rw [List.filterMap_cons_none late, holdAfter_lates q r routes]
      by_cases e : r = k
      · rw [e, late]
        simp
      · simp [e]
    | some x =>
      have one : holdAfter r hold (x :: routes.filterMap (lateOf q)) =
          holdAfter r (if r = k then some x.record else hold) (routes.filterMap (lateOf q)) := by
        simp only [holdAfter, List.foldl_cons, lateOf_route late, eq_comm]
      rw [List.filterMap_cons_some late, one, holdAfter_lates q r routes]
      by_cases e : r = k
      · rw [e, late]
        simp
      · simp [e]

/-- The routes of the posted jobs that wait, in the order of their first jobs. -/
def drainRoutes (q : List Job) : List RouteId :=
  newRoutes [] ((q.filter fun j => j.posting.isSome).filterMap Job.route)

/-- The late failure of one route of a drained queue. -/
def drainLate (q : List Job) (r : RouteId) : Option LateFailure := lateOf (q.filter fun j => j.posting.isSome) r

theorem drainLates_notices (q : List Job) : (drainLates q).map LateFailure.notice =
    (drainRoutes q).flatMap fun r => ((drainLate q r).map LateFailure.notice).toList := by
  rw [drainLates, latesOf, List.map_filterMap, List.filterMap_eq_flatMap_toList]
  rfl

theorem holdAfter_drainLates (q : List Job) (r : RouteId) (hold : Option HoldRecord) :
    holdAfter r hold (drainLates q) = ((drainLate q r).map LateFailure.record).or hold := by
  refine (holdAfter_lates _ r _ hold).trans ?_
  split
  · rfl
  · next away =>
    have none : postsOf (q.filter fun j => j.posting.isSome) r = [] := by
      refine List.filterMap_eq_nil_iff.2 fun j hj => if_neg fun route => away ?_
      exact mem_newRoutes.2 ⟨List.mem_filterMap.2 ⟨j, hj, route⟩, List.not_mem_nil⟩
    rw [drainLate, lateOf, none]
    rfl

/-- The posted jobs of a route, read off the whole queue. -/
theorem postsOf_posted (q : List Job) (r : RouteId) : postsOf (q.filter fun j => j.posting.isSome) r = postsOf q r := by
  rw [postsOf, List.filterMap_filter]
  refine List.filterMap_congr fun j _ => ?_
  cases j.posting <;> simp

theorem drainRoutes_eq (q : List Job) : drainRoutes q =
    (q.filterMap fun j => if j.isHost ∧ j.post ≠ none then j.route else none).foldl
      (fun seen q => if q ∈ seen then seen else seen ++ [q]) [] := by
  rw [foldl_seen, List.nil_append, drainRoutes, List.filterMap_filter]
  refine congrArg _ (List.filterMap_congr fun j _ => ?_)
  cases origin : j.origin <;> cases post : j.post <;> simp [Job.posting, Job.isHost, Job.isPoll, origin, post]

/-! ### A recovery that fails -/

theorem State.answerBranchReset_core (s : State) (b : BranchId) : (s.answerBranchReset b .busFault).core = s.core := by
  rw [State.answerBranchReset_eq]
  rfl

section
variable (s : State) (b : BranchId) (x : NoticeBody)

theorem State.answered_branch (k : BranchId) :
    ((s.answerBranchReset b .busFault).offer x).branch k = s.branch k := by
  rw [State.branch, State.offer_branches, State.answerBranchReset_eq]
  rfl

theorem State.answered_routes : ((s.answerBranchReset b .busFault).offer x).routes = s.routes := by
  rw [State.offer_routes, State.answerBranchReset_eq]

theorem State.answered_watches : ((s.answerBranchReset b .busFault).offer x).watches = s.watches := by
  rw [State.offer_watches, State.answerBranchReset_eq]

theorem State.answered_route (r : RouteId) : ((s.answerBranchReset b .busFault).offer x).route r = s.route r := by
  rw [State.route, State.answered_routes]
  rfl

theorem State.answered_watch (w : WatchId) : ((s.answerBranchReset b .busFault).offer x).watch w = s.watch w := by
  rw [State.watch, State.answered_watches]
  rfl

theorem State.answered_pendingReset (k : BranchId) :
    ((s.answerBranchReset b .busFault).offer x).pendingReset k = if k = b then none else s.pendingReset k := by
  rw [← State.answerBranchReset_pendingReset s b .busFault, State.pendingReset, State.offer_pendingResets]
  rfl

theorem State.answered_replies : ((s.answerBranchReset b .busFault).offer x).replies =
    s.replies ++ resetFailed b (s.pendingReset b) := by
  rw [State.offer_replies, State.answerBranchReset_eq]

theorem State.answered_core : ((s.answerBranchReset b .busFault).offer x).core = s.core.afterOffer x := by
  rw [State.offer_afterOffer, State.afterOffer_core, State.answerBranchReset_core]

end

section
variable (s : State) (b : BranchId) (lines : Lines) (busFree : Bool)

theorem State.isolatedAt_branch_other {k : BranchId} (away : k ≠ b) :
    (s.isolatedAt b lines busFree).branch k = s.branch k := by
  rw [State.isolatedAt, State.branch_setBranch, if_neg (Ne.symm away)]

theorem State.isolatedAt_branch : (s.isolatedAt b lines busFree).branch b = { s.branch b with
    engine := .isolated
    isolations := min ((s.branch b).isolations + 1) 65535
    lines := lines
    busFree := busFree } := State.branch_setBranch_self ..

theorem State.isolatedAt_queue (k : BranchId) : ((s.isolatedAt b lines busFree).branch k).queue = (s.branch k).queue := by
  rw [State.isolatedAt, State.branch_setBranch]
  split
  · next e => rw [← e]
  · rfl

theorem State.isolatedAt_jobs : (s.isolatedAt b lines busFree).jobs = s.jobs :=
  State.jobs_congr (s.isolatedAt_queue b lines busFree)

/-- The drain of the branch once it is ISOLATED. -/
theorem State.isolatedAt_drained {s : State} {b : BranchId} (law : PoolLaw s) (under : UnderRecovery s b)
    (opened : s.session = .opened) (lines : Lines) (busFree : Bool) :
    Drained (s.branch b).queue (drainLates (s.branch b).queue) (s.isolatedAt b lines busFree)
      ((s.isolatedAt b lines busFree).drain b) := by
  have queue := s.isolatedAt_queue b lines busFree
  have isolated : PoolLaw (s.isolatedAt b lines busFree) := law.of_identities fun k => by
    rw [State.identities, queue]
    exact .refl _
  have recovering : UnderRecovery (s.isolatedAt b lines busFree) b := by
    unfold UnderRecovery
    rw [queue, State.isolatedAt_jobs]
    exact under
  have drained := State.drain_drained isolated recovering opened
  rwa [queue] at drained

end

/-- Settles O41: the branch is isolated and drained, which is `Drained` with the late failures of its queue, and then the
BRANCH_RESET is answered and the ISOLATED notice offered. -/
theorem failedRecoveryDrainsTheQueue : Obligations.FailedRecoveryDrainsTheQueue := by
  refine ⟨fun c s b r engine fails opened law under => ?_, fun c s b r engine fails notOpen empty => ?_⟩
  · intro queue posted routes offers
    have posts (q : RouteId) : posted q = postsOf (queue.filter fun j => j.posting.isSome) q := by
      rw [postsOf_posted]
      refine List.filterMap_congr fun j _ => ?_
      cases origin : j.origin <;> cases post : j.post <;> simp [Job.posting, origin, post]
    have late (q : RouteId) : drainLate queue q = match posted q with
        | [] => none
        | first :: others => some ⟨q, ⟨first.1, first.2, .branchDown, 0⟩, discardsOf others⟩ := by
      rw [posts]
      rfl
    have notices : offers = (drainLates queue).map LateFailure.notice ++
        [.branch b .isolated r.cause.status (queue.countP Job.isHost)] := by
      rw [drainLates_notices, drainRoutes_eq]
      refine congrArg (· ++ _) (List.flatMap_congr fun q _ => ?_)
      rw [late]
      cases posted q <;> rfl
    obtain ⟨lines, busFree, runs⟩ := State.failsBy_exec engine fails
    have drained := State.isolatedAt_drained law under opened lines busFree
    have named (i : Job) (hi : i ∈ queue) : (!namesSlot queue b i.slot) = false := by
      rw [namesSlot_iff.2 ⟨i, hi, law.placed b i hi, rfl⟩]
      rfl
    have unnamed (k : BranchId) (away : k ≠ b) (n : SlotId) : (!namesSlot queue k n) = true := by
      rw [Bool.not_eq_true', ← Bool.not_eq_true, namesSlot_iff]
      rintro ⟨j, hj, branch, -⟩
      exact away (branch.symm.trans (law.placed b j hj))
    generalize (s.isolatedAt b lines busFree).drain b = d at runs drained
    have reset (k : BranchId) : d.pendingReset k = s.pendingReset k := by
      rw [State.pendingReset, drained.resets]
      rfl
    have core : ((d.answerBranchReset b .busFault).offer (.branch b .isolated r.cause.status
        (queue.countP Job.isHost))).core = (offers.foldl State.afterOffer s).core := by
      rw [State.answered_core, drained.core, notices, State.foldl_afterOffer_core, List.foldl_append]
      rfl
    refine ⟨_, runs, ?_, fun k => ?_, fun k away => ?_, ?_, fun q => ?_, fun w => ?_⟩
    · refine (State.eq_of_core core).trans ?_
      rw [State.answered_replies, drained.replies, reset]
      rfl
    · rw [State.answered_pendingReset, reset]
    · rw [State.answered_branch, drained.taken.branches, State.isolatedAt_branch_other s b lines busFree away,
        List.filter_eq_self.2 fun i _ => unnamed k away i.slot]
    · rw [State.answered_branch, drained.taken.branches, State.isolatedAt_branch,
        List.filter_eq_nil_iff.2 fun i hi => by rw [named i hi]; decide]
    · rw [State.answered_route, drained.taken.routes, drained.holds, holdAfter_drainLates, late]
      cases posted q <;> rfl
    · rw [State.answered_watch, drained.taken.watches]
      rfl
  · obtain ⟨lines, busFree, runs⟩ := State.failsBy_exec engine fails
    have drained : (s.isolatedAt b lines busFree).drain b = s.isolatedAt b lines busFree := by
      have none : ((s.isolatedAt b lines busFree).branch b).queue = [] := by rw [State.isolatedAt_queue, empty]
      simp only [State.drain, none, List.foldl_nil]
    have core (x : NoticeBody) : (((s.isolatedAt b lines busFree).answerBranchReset b .busFault).offer x).core =
        s.core := by
      rw [State.answered_core]
      exact if_pos notOpen
    rw [drained] at runs
    refine ⟨_, runs, ?_, fun k => ?_, fun k away => ?_, ?_⟩
    · refine (State.eq_of_core (core _)).trans ?_
      rw [State.answered_replies, State.answered_routes, State.answered_watches]
      rfl
    · rw [State.answered_pendingReset]
      rfl
    · rw [State.answered_branch, State.isolatedAt_branch_other s b lines busFree away]
    · rw [State.answered_branch, State.isolatedAt_branch]

end Sys2Proof.Machine
end

section
/-! SUPPORT. The reads that the checks of the route requests make of the two tables (R45, R47, R50), and the laws of the
tables (R45, R50, R136) under one change of a record. -/

namespace Sys2Proof.Machine

/-! ### Reads of the tables -/

theorem Watch.refersTo_iff {x : Watch} {r : RouteId} :
    x.refersTo r = true ↔ ∃ c, x.config = some c ∧ c.route = r := by
  unfold Watch.refersTo
  split <;> simp_all

theorem RouteConfig.sameDevice_iff {c d : RouteConfig} :
    c.sameDevice d = true ↔ c.branch = d.branch ∧ c.address = d.address := by
  simp [RouteConfig.sameDevice]

/-- The duplicate that ROUTE_SET is refused for: another configured route that names the device (R45). -/
theorem State.duplicate_iff {s : State} {r : RouteId} {c : RouteConfig} : s.duplicate r c = true ↔
    ∃ q : RouteId, q ≠ r ∧ ∃ d, (s.route q).config = some d ∧ d.branch = c.branch ∧ d.address = c.address := by
  have named (q : RouteId) : (match (s.route q).config with | none => false | some d => d.sameDevice c) = true ↔
      ∃ d, (s.route q).config = some d ∧ d.branch = c.branch ∧ d.address = c.address := by
    cases (s.route q).config <;> simp [RouteConfig.sameDevice_iff]
  simp only [State.duplicate, List.any_eq_true, List.mem_finRange, true_and, Bool.and_eq_true, bne_iff_ne]
  exact exists_congr fun q => and_congr_right fun _ => named q

theorem State.watches_toList (s : State) : s.watches.toList = (List.finRange 16).map s.watch := by
  apply List.ext_getElem <;> simp [State.watch]

theorem State.watchesOf_eq (s : State) (r : RouteId) :
    s.watchesOf r = (List.finRange 16).countP fun w => (s.watch w).refersTo r := by
  rw [State.watchesOf, s.watches_toList, List.countP_map]
  rfl

theorem State.watchesOf_pos {s : State} {r : RouteId} :
    0 < s.watchesOf r ↔ ∃ w : WatchId, (s.watch w).refersTo r = true := by
  rw [State.watchesOf_eq, List.countP_pos_iff]
  simp

/-! ### The checks of ROUTE_SET and ROUTE_CLEAR (R44, R45, R50) -/

theorem Route.held_iff {rt : Route} : rt.held = true ↔ rt.hold ≠ none := by
  rw [Route.held, Option.isSome_iff_ne_none]

theorem Route.configured_iff {rt : Route} : rt.configured = true ↔ rt.config ≠ none := by
  rw [Route.configured, Option.isSome_iff_ne_none]

/-- A check that refuses where `p` holds passes just where `p` fails and the checks after it pass. -/
theorem refusal_none {p : Prop} [Decidable p] {st : Status} {next : Option Status} :
    (if p then some st else next) = none ↔ ¬ p ∧ next = none := by
  split <;> simp_all

/-- ROUTE_SET passes its own checks just where the route is not held, has no job, and repeats no device. -/
theorem State.routeSetRefusal_none {s : State} {r : RouteId} {c : RouteConfig} : s.routeSetRefusal r c = none ↔
    (s.route r).hold = none ∧ (s.route r).jobs = 0 ∧ s.duplicate r c = false := by
  simp only [State.routeSetRefusal, refusal_none]
  simp [Route.held]

/-- ROUTE_CLEAR passes its own checks just where the route is configured and not held, and no job or watch refers to
it. -/
theorem State.routeClearRefusal_none {s : State} {r : RouteId} : s.routeClearRefusal r = none ↔
    (s.route r).hold = none ∧ (s.route r).jobs = 0 ∧ (∀ w : WatchId, (s.watch w).refersTo r = false) ∧
      (s.route r).config ≠ none := by
  simp only [State.routeClearRefusal, refusal_none, State.watchesOf_pos]
  simp [Route.held, Route.configured, and_assoc]

/-! ### The three laws, kept together -/

/-- Each streak lies between 0 and 8, and at most one of the two is above 0 (R136). -/
def Route.StreaksInRange (rt : Route) : Prop :=
  rt.goodStreak ≤ 8 ∧ rt.badStreak ≤ 8 ∧ (rt.goodStreak = 0 ∨ rt.badStreak = 0)

/-- Streaks that start afresh (R46, R51, R142). -/
theorem Route.streaksInRange_zero {rt : Route} (good : rt.goodStreak = 0) (bad : rt.badStreak = 0) :
    rt.StreaksInRange := by
  simp [Route.StreaksInRange, good, bad]

/-- Each of the three laws of the tables that holds in `x` holds in `s` too. -/
structure KeepsTableLaws (x s : State) : Prop where
  devices : UniqueDevices x → UniqueDevices s
  streaks : StreakLaw x → StreakLaw s
  watches : WatchLaw x → WatchLaw s

theorem KeepsTableLaws.refl (s : State) : KeepsTableLaws s s := ⟨id, id, id⟩

/-- Reset brings the three laws about. -/
theorem KeepsTableLaws.reset (x : State) : KeepsTableLaws x State.reset := by
  obtain ⟨-, -, -, devices, streaks, watches, -⟩ := lawsHoldAtReset
  exact ⟨fun _ => devices, fun _ => streaks, fun _ => watches⟩

section
variable {x s t : State} (h : KeepsTableLaws x s)
include h

/-- What changes no configuration and keeps the streaks in their range. -/
theorem KeepsTableLaws.of_records
    (routes : ∀ r, (t.route r).config = (s.route r).config ∧ ((s.route r).StreaksInRange → (t.route r).StreaksInRange))
    (watches : ∀ w, (t.watch w).config = (s.watch w).config) : KeepsTableLaws x t where
  devices law q r c d := by
    rw [(routes q).1, (routes r).1]
    exact h.devices law q r c d
  streaks law r := (routes r).2 (h.streaks law r)
  watches law w c := by
    rw [watches, (routes c.route).1]
    exact h.watches law w c

/-- What leaves the two tables alone. -/
theorem KeepsTableLaws.congr (routes : t.routes = s.routes) (watches : t.watches = s.watches) : KeepsTableLaws x t := by
  have route (r : RouteId) : t.route r = s.route r := by rw [State.route, routes]; rfl
  have watch (w : WatchId) : t.watch w = s.watch w := by rw [State.watch, watches]; rfl
  exact h.of_records (fun r => by rw [route]; exact ⟨rfl, id⟩) fun w => by rw [watch]

theorem KeepsTableLaws.setRoute (r : RouteId) {v : Route} (config : v.config = (s.route r).config)
    (streaks : (s.route r).StreaksInRange → v.StreaksInRange) : KeepsTableLaws x (s.setRoute r v) := by
  refine h.of_records (fun q => ?_) fun _ => rfl
  rw [State.route_setRoute]
  split
  next e => exact e ▸ ⟨config, streaks⟩
  next => exact ⟨rfl, id⟩

theorem KeepsTableLaws.setWatch (w : WatchId) {v : Watch} (config : v.config = (s.watch w).config) :
    KeepsTableLaws x (s.setWatch w v) := by
  refine h.of_records (fun _ => ⟨rfl, id⟩) fun k => ?_
  rw [State.watch_setWatch]
  split
  next e => exact e ▸ config
  next => rfl

/-- Every route changed by `f`, and every watch by `g`. -/
theorem KeepsTableLaws.mapTables {f : Route → Route} {g : Watch → Watch}
    (routes : ∀ rt, (f rt).config = rt.config ∧ (rt.StreaksInRange → (f rt).StreaksInRange))
    (watches : ∀ x, (g x).config = x.config) :
    KeepsTableLaws x { s with routes := mapTable f s.routes, watches := mapTable g s.watches } := by
  refine h.of_records (fun r => ?_) fun w => ?_
  · rw [show State.route _ r = f (s.route r) from mapTable_getElem ..]
    exact routes _
  · rw [show State.watch _ w = g (s.watch w) from mapTable_getElem ..]
    exact watches _

/-- Every watch changed by `g`. -/
theorem KeepsTableLaws.mapWatches {g : Watch → Watch} (watches : ∀ x, (g x).config = x.config) :
    KeepsTableLaws x { s with watches := mapTable g s.watches } := by
  refine h.of_records (fun _ => ⟨rfl, id⟩) fun w => ?_
  rw [show State.watch _ w = g (s.watch w) from mapTable_getElem ..]
  exact watches _

/-- A watch whose new ROUTE, if it has one, names a configured route (R150, R152). -/
theorem KeepsTableLaws.setWatch_routed (w : WatchId) {v : Watch}
    (routed : ∀ c, v.config = some c → (s.route c.route).config ≠ none) : KeepsTableLaws x (s.setWatch w v) where
  devices := h.devices
  streaks := h.streaks
  watches law k c := by
    rw [State.watch_setWatch]
    split
    next => exact routed c
    next => exact h.watches law k c

/-- A route configured afresh for a device that no other route names (R45, R46). -/
theorem KeepsTableLaws.configure {r : RouteId} {c : RouteConfig} (single : s.duplicate r c = false) :
    KeepsTableLaws x (s.setRoute r ((s.route r).configure c)) := by
  have other {q : RouteId} (ne : q ≠ r) {d : RouteConfig} (hd : (s.route q).config = some d) :
      ¬ (d.branch = c.branch ∧ d.address = c.address) := fun same => by
    rw [State.duplicate_iff.2 ⟨q, ne, d, hd, same⟩] at single
    cases single
  have config (q : RouteId) : ((s.setRoute r ((s.route r).configure c)).route q).config =
      if r = q then some c else (s.route q).config := by
    rw [State.route_setRoute]
    split <;> rfl
  refine ⟨fun law q p d e ne hd he same => ?_, fun law q => ?_, fun law w d hd => ?_⟩
  · rw [config] at hd he
    split at hd <;> split at he
    next hq hp => exact ne (hq.symm.trans hp)
    next hq hp =>
      cases hd
      exact other (Ne.symm hp) he ⟨same.1.symm, same.2.symm⟩
    next hq hp =>
      cases he
      exact other (Ne.symm hq) hd same
    next => exact h.devices law q p d e ne hd he same
  · rw [State.route_setRoute]
    split
    next => exact Route.streaksInRange_zero rfl rfl
    next => exact h.streaks law q
  · rw [config]
    split
    next => exact Option.some_ne_none c
    next => exact h.watches law w d hd

/-- A route freed that no watch refers to (R50, R51). -/
theorem KeepsTableLaws.free {r : RouteId} (unwatched : ∀ w : WatchId, (s.watch w).refersTo r = false) :
    KeepsTableLaws x (s.setRoute r (s.route r).freed) := by
  have config (q : RouteId) : ((s.setRoute r (s.route r).freed).route q).config =
      if r = q then none else (s.route q).config := by
    rw [State.route_setRoute]
    split <;> rfl
  refine ⟨fun law q p d e ne hd he => ?_, fun law q => ?_, fun law w d hd => ?_⟩
  · rw [config] at hd he
    split at hd
    next => cases hd
    next =>
      split at he
      next => cases he
      next => exact h.devices law q p d e ne hd he
  · rw [State.route_setRoute]
    split
    next => exact Route.streaksInRange_zero rfl rfl
    next => exact h.streaks law q
  · rw [config]
    split
    next e =>
      have refers : (s.watch w).refersTo r = true := Watch.refersTo_iff.2 ⟨d, hd, e.symm⟩
      rw [unwatched] at refers
      cases refers
    next => exact h.watches law w d hd

end

end Sys2Proof.Machine
end

section
/-! SUPPORT. The laws of the tables under presence outcomes, the end of a job, late failures and the engines (R54, R73,
R112 to R127, R136). -/

namespace Sys2Proof.Machine

/-! ### Offers, presence and polls -/

/-- The streaks move within their range, and the one that does not rise is 0 (R136). -/
theorem Route.moveStreaks_inRange {rt : Route} (o : Evidence) (h : rt.StreaksInRange) :
    (rt.moveStreaks o).StreaksInRange := by
  cases o with
  | good => exact ⟨bump_le .., Nat.zero_le _, .inr rfl⟩
  | bad => exact ⟨Nat.zero_le _, bump_le .., .inl rfl⟩
  | neutral => exact h

theorem Route.moveStreaks_config (rt : Route) (o : Evidence) : (rt.moveStreaks o).config = rt.config := by
  cases o <;> rfl

theorem KeepsTableLaws.foldl {α : Type} {f : State → α → State} {x : State}
    (one : ∀ {s} a, KeepsTableLaws x s → KeepsTableLaws x (f s a)) :
    ∀ (l : List α) {s : State}, KeepsTableLaws x s → KeepsTableLaws x (l.foldl f s)
  | [], _, h => h
  | a :: l, _, h => .foldl one l (one a h)

section
variable {x s : State} (h : KeepsTableLaws x s)
include h

theorem KeepsTableLaws.offer (body : NoticeBody) : KeepsTableLaws x (s.offer body) :=
  h.congr (s.offer_routes body) (s.offer_watches body)

theorem KeepsTableLaws.changePresence (r : RouteId) (cause : Option Status) (new : Presence) :
    KeepsTableLaws x (s.changePresence r cause new) := by
  have set := h.setRoute r (v := { s.route r with presence := new }) rfl id
  unfold State.changePresence
  simp only
  split
  · exact set.offer _
  · exact set

theorem KeepsTableLaws.presenceOutcome (r : RouteId) (st : Status) (acked : Bool) :
    KeepsTableLaws x (s.presenceOutcome r st acked) := by
  have moved := h.setRoute r ((s.route r).moveStreaks_config (classify st acked))
    (Route.moveStreaks_inRange (classify st acked))
  unfold State.presenceOutcome
  simp only
  split
  · exact moved
  · exact .foldl (fun p k => k.changePresence r (some st) p) _ moved

theorem KeepsTableLaws.resetPresence (r : RouteId) : KeepsTableLaws x (s.resetPresence r) := by
  have afresh := h.setRoute r (v := { s.route r with goodStreak := 0, badStreak := 0 }) rfl
    fun _ => Route.streaksInRange_zero rfl rfl
  unfold State.resetPresence
  simp only
  split
  · exact afresh
  · exact afresh.changePresence ..

theorem KeepsTableLaws.clearMissed (w : WatchId) : KeepsTableLaws x (s.clearMissed w) := h.setWatch w rfl

theorem KeepsTableLaws.offerChange (c : ChangeBody) : KeepsTableLaws x (s.offerChange c) := by
  unfold State.offerChange
  split
  · split
    · refine KeepsTableLaws.clearMissed ?_ c.watch
      exact h.congr rfl rfl
    · split
      · exact h.congr rfl rfl
      · refine KeepsTableLaws.clearMissed ?_ c.watch
        exact h.congr rfl rfl
  · exact h

theorem KeepsTableLaws.clearPollOut (w : WatchId) : KeepsTableLaws x (s.clearPollOut w) := h.setWatch w rfl

theorem KeepsTableLaws.comparePoll (w : WatchId) (c : WatchConfig) (value : List Byte) :
    KeepsTableLaws x (s.comparePoll w c value) := by
  have stored := h.setWatch w (v := { s.watch w with lastValue := some value }) rfl
  unfold State.comparePoll
  simp only
  split
  all_goals
    split
    · exact stored.offerChange _
    · exact stored

theorem KeepsTableLaws.pollEnds (w : WatchId) (st : Status) (value : List Byte) :
    KeepsTableLaws x (s.pollEnds w st value) := by
  have cleared := h.clearPollOut w
  unfold State.pollEnds
  simp only
  split
  · exact cleared
  · split
    · exact cleared.comparePoll ..
    · exact cleared

theorem KeepsTableLaws.watchTakes (j : Job) (st : Status) : KeepsTableLaws x (s.watchTakes j st) := by
  unfold State.watchTakes
  split
  · exact h
  · exact h.pollEnds ..

/-! ### The end of a job -/

theorem KeepsTableLaws.jobJoins (r : RouteId) : KeepsTableLaws x (s.jobJoins r) := h.setRoute r rfl id

theorem KeepsTableLaws.jobLeaves (r : RouteId) : KeepsTableLaws x (s.jobLeaves r) := h.setRoute r rfl id

theorem KeepsTableLaws.leave (j : Job) : KeepsTableLaws x (s.leave j) := by
  have dropped : KeepsTableLaws x (s.dropJob j) := h.congr rfl rfl
  unfold State.leave
  split
  · exact dropped
  · exact dropped.jobLeaves _

theorem KeepsTableLaws.removeJob (j : Job) : KeepsTableLaws x (s.removeJob j) := by
  cases origin : j.origin with
  | host tag =>
    rw [s.removeJob_host j origin]
    exact h.leave j
  | watch w =>
    rw [s.removeJob_watch j origin]
    exact (h.leave j).clearPollOut w

theorem KeepsTableLaws.deliver (j : Job) (st : Status) : KeepsTableLaws x (s.deliver j st) := by
  have dropped : KeepsTableLaws x (s.dropJob j) := h.congr rfl rfl
  unfold State.deliver
  cases route : j.route with
  | none =>
    simp only
    repeat' split
    all_goals exact dropped.congr rfl rfl
  | some r =>
    simp only
    refine (KeepsTableLaws.jobLeaves ?_ r).presenceOutcome r st _
    repeat' split
    all_goals exact dropped.congr rfl rfl

theorem KeepsTableLaws.countCloseEnd (j : Job) (st : Status) : KeepsTableLaws x (s.countCloseEnd j st) := by
  unfold State.countCloseEnd
  split
  · exact h.congr rfl rfl
  · exact h

/-! ### Late failures -/

theorem KeepsTableLaws.purgeJob (j : Job) : KeepsTableLaws x (s.purgeJob j) := by
  unfold State.purgeJob purgeOne
  split
  · exact h.removeJob j
  · exact h.deliver ..
  · exact h.removeJob j

theorem KeepsTableLaws.purge (r : RouteId) (d : Discards) : KeepsTableLaws x (s.purge r d).1 := by
  rw [State.purge_fst]
  exact .foldl (fun j k => k.purgeJob j) _ h

theorem KeepsTableLaws.carryOut (r : RouteId) (f : FailedPost) (d : Discards) :
    KeepsTableLaws x (s.carryOut r f d) := by
  have held := h.setRoute r (v := { s.route r with hold := some ⟨f.post, f.status, 0⟩, waiting := none }) rfl id
  refine KeepsTableLaws.offer ?_ _
  exact (held.purge r d).setRoute r rfl id

theorem KeepsTableLaws.lateFailure (r : RouteId) (f : FailedPost) : KeepsTableLaws x (s.lateFailure r f) := by
  unfold State.lateFailure
  simp only
  split
  · exact h.setRoute r rfl id
  · exact h.carryOut ..

theorem KeepsTableLaws.settleWaiting (r : RouteId) : KeepsTableLaws x (s.settleWaiting r) := by
  have settled := h.setRoute r (v := { s.route r with waiting := none }) rfl id
  unfold State.settleWaiting
  split
  · exact h
  · split
    · exact h
    · split
      · exact h.carryOut ..
      · exact settled.congr rfl rfl

theorem KeepsTableLaws.settleRouteOf (j : Job) : KeepsTableLaws x (s.settleRouteOf j) := by
  unfold State.settleRouteOf
  split
  · exact h
  · exact h.settleWaiting _

theorem KeepsTableLaws.postedEnds (j : Job) (st : Status) : KeepsTableLaws x (s.postedEnds j st) := by
  unfold State.postedEnds
  split
  · split
    · exact h
    · split
      · exact h.lateFailure ..
      · exact h.congr rfl rfl
  · exact h

theorem KeepsTableLaws.endDelivered (j : Job) (st : Status) : KeepsTableLaws x (s.endDelivered j st) :=
  ((h.countCloseEnd j st).deliver j st).postedEnds j st

theorem KeepsTableLaws.endJob (j : Job) (st : Status) : KeepsTableLaws x (s.endJob j st) :=
  (h.endDelivered j st).watchTakes j st

theorem KeepsTableLaws.endOnWires (j : Job) (st : Status) : KeepsTableLaws x (s.endOnWires j st) :=
  ((h.endDelivered j st).settleRouteOf j).watchTakes j st

/-! ### The engines -/

theorem KeepsTableLaws.updateJob (j : Job) (f : Job → Job) : KeepsTableLaws x (s.updateJob j f) := h.congr rfl rfl

theorem KeepsTableLaws.enterPhase (b : BranchId) (c : Conduct) (p : Phase) :
    KeepsTableLaws x (s.enterPhase b c p) := h.congr rfl rfl

theorem KeepsTableLaws.enterRecovery (b : BranchId) (cause : RecoveryCause) :
    KeepsTableLaws x (s.enterRecovery b cause) := by
  obtain ⟨v, entered, -⟩ := s.enterRecovery_only b cause
  rw [entered]
  exact h.congr rfl rfl

theorem KeepsTableLaws.startJob (b : BranchId) (j : Job) : KeepsTableLaws x (s.startJob b j) := by
  unfold State.startJob
  simp only
  split
  · exact h.congr rfl rfl
  · split
    · exact h.enterRecovery ..
    · exact h.congr rfl rfl

theorem KeepsTableLaws.selectIfIdle (b : BranchId) : KeepsTableLaws x (s.selectIfIdle b) := by
  unfold State.selectIfIdle
  split
  · split
    · exact h
    · exact h.startJob ..
  all_goals exact h

theorem KeepsTableLaws.becomeIdle (b : BranchId) : KeepsTableLaws x (s.becomeIdle b) := by
  have idle : KeepsTableLaws x (s.setEngine b .idle) := h.congr rfl rfl
  exact idle.selectIfIdle b

theorem KeepsTableLaws.selectForRoute (r : RouteId) : KeepsTableLaws x (s.selectForRoute r) := by
  unfold State.selectForRoute
  split
  · exact h
  · exact h.selectIfIdle _

theorem KeepsTableLaws.acceptJob (j : Job) : KeepsTableLaws x (s.acceptJob j) := by
  have placed : KeepsTableLaws x (s.placeInQueue j) := h.congr rfl rfl
  exact placed.selectIfIdle _

theorem KeepsTableLaws.answerBranchReset (b : BranchId) (st : Status) :
    KeepsTableLaws x (s.answerBranchReset b st) := by
  unfold State.answerBranchReset
  split
  · exact h
  · exact h.congr rfl rfl

theorem KeepsTableLaws.recoverySucceeds (b : BranchId) (cause : RecoveryCause) :
    KeepsTableLaws x (s.recoverySucceeds b cause) := by
  have idle (v : Branch) : KeepsTableLaws x (s.setBranch b v) := h.congr rfl rfl
  unfold State.recoverySucceeds
  simp only
  split
  · exact ((idle _).answerBranchReset ..).selectIfIdle b
  · exact (((idle _).offer _).answerBranchReset ..).selectIfIdle b

theorem KeepsTableLaws.drainFirst (j : Job) : KeepsTableLaws x (drainFirst s j) := by
  unfold Machine.drainFirst
  split
  · exact h
  · exact h.endJob ..
  · exact h.removeJob j

theorem KeepsTableLaws.drainSecond (b : BranchId) (j : Job) : KeepsTableLaws x (drainSecond b s j) := by
  unfold Machine.drainSecond
  split
  · exact h.endJob ..
  · exact h

theorem KeepsTableLaws.drain (b : BranchId) : KeepsTableLaws x (s.drain b) :=
  .foldl (fun j k => k.drainSecond b j) _ (.foldl (fun j k => k.drainFirst j) _ h)

theorem KeepsTableLaws.recoveryFails (b : BranchId) (cause : RecoveryCause) :
    KeepsTableLaws x (s.recoveryFails b cause) := by
  have isolated (v : Branch) : KeepsTableLaws x (s.setBranch b v) := h.congr rfl rfl
  exact (((isolated _).drain b).answerBranchReset ..).offer _

theorem KeepsTableLaws.busBecomesFree (b : BranchId) : KeepsTableLaws x (s.busBecomesFree b) := by
  have free (v : Branch) : KeepsTableLaws x (s.setBranch b v) := h.congr rfl rfl
  unfold State.busBecomesFree
  simp only
  split
  · exact (free _).becomeIdle b
  · exact (free _).recoverySucceeds ..
  all_goals exact free _

/-! ### Contention and the timers of a job -/

theorem KeepsTableLaws.lossBeforeAck (b : BranchId) (j : Job) : KeepsTableLaws x (s.lossBeforeAck b j) := by
  have counted : KeepsTableLaws x (s.countLoss b) := h.congr rfl rfl
  unfold State.lossBeforeAck
  simp only
  split
  · exact ((counted.updateJob j Job.requeued).settleRouteOf j).congr rfl rfl
  · exact (counted.endOnWires ..).congr rfl rfl

theorem KeepsTableLaws.lossAfterAck (b : BranchId) (j : Job) : KeepsTableLaws x (s.lossAfterAck b j) := by
  have counted : KeepsTableLaws x (s.countLoss b) := h.congr rfl rfl
  exact (counted.endOnWires ..).congr rfl rfl

theorem KeepsTableLaws.busFault (b : BranchId) (j : Job) : KeepsTableLaws x (s.busFault b j) :=
  (h.endOnWires ..).enterRecovery ..

theorem KeepsTableLaws.deadlineExpires (j : Job) (atBoundary : Bool) :
    KeepsTableLaws x (s.deadlineExpires j atBoundary) := by
  unfold State.deadlineExpires
  split
  · exact (h.endJob ..).selectIfIdle _
  · exact (h.endJob ..).selectIfIdle _
  · exact h.congr rfl rfl
  · exact h

theorem KeepsTableLaws.retryEnds (j : Job) : KeepsTableLaws x (s.retryEnds j) :=
  (h.updateJob ..).selectIfIdle _

/-! ### Polls -/

theorem KeepsTableLaws.countdownExpires (w : WatchId) (c : WatchConfig) :
    KeepsTableLaws x (s.countdownExpires w c) := by
  have restarted := h.setWatch w (v := { s.watch w with countdown := c.period }) rfl
  unfold State.countdownExpires
  simp only
  split
  · exact restarted.setWatch w rfl
  · refine KeepsTableLaws.acceptJob (KeepsTableLaws.jobJoins ?_ c.route) _
    exact restarted.setWatch w rfl

end

end Sys2Proof.Machine
end

section
/-! SUPPORT. The laws of the tables under the events on the branches and of the timers. -/

namespace Sys2Proof.Machine

/-- The answer is a next state, and each of the three laws that holds in `x` holds there too. -/
def AnswerKeepsTableLaws (x : State) (a : Answer) : Prop := ∃ t, a = .next t ∧ KeepsTableLaws x t

theorem KeepsTableLaws.next {x t : State} (h : KeepsTableLaws x t) : AnswerKeepsTableLaws x (.next t) := ⟨t, rfl, h⟩

theorem AnswerKeepsTableLaws.same (s : State) : AnswerKeepsTableLaws s (.next s) := (KeepsTableLaws.refl s).next

/-- An event that acts under a condition, and otherwise changes nothing. -/
theorem AnswerKeepsTableLaws.ite {s t : State} {p : Prop} [Decidable p] (h : KeepsTableLaws s t) :
    AnswerKeepsTableLaws s (.next (if p then t else s)) := by
  split
  · exact h.next
  · exact .same s

section
variable (s : State) (b : BranchId)

/-- A branch's own change leaves the tables alone. -/
theorem State.setBranch_keepsTableLaws (v : Branch) : KeepsTableLaws s (s.setBranch b v) :=
  (KeepsTableLaws.refl s).congr rfl rfl

theorem execBusFreeSet_keepsTableLaws : AnswerKeepsTableLaws s (execBusFreeSet b s) :=
  .ite ((KeepsTableLaws.refl s).busBecomesFree b)

theorem execRetryWaitEnds_keepsTableLaws (slot : SlotId) : AnswerKeepsTableLaws s (execRetryWaitEnds slot s) := by
  unfold execRetryWaitEnds
  split
  · exact .same s
  · split
    · exact .ite ((KeepsTableLaws.refl s).retryEnds _)
    all_goals exact .same s

theorem execJobDeadlineExpires_keepsTableLaws (slot : SlotId) (atBoundary : Bool) :
    AnswerKeepsTableLaws s (execJobDeadlineExpires slot atBoundary s) := by
  unfold execJobDeadlineExpires
  split
  · exact .same s
  · exact .ite ((KeepsTableLaws.refl s).deadlineExpires ..)

theorem execStartPhaseDone_keepsTableLaws : AnswerKeepsTableLaws s (execStartPhaseDone b s) := by
  unfold execStartPhaseDone
  split
  · exact .same s
  · split
    · exact ((KeepsTableLaws.refl s).enterPhase ..).next
    all_goals exact .same s

theorem execRestartPhaseDone_keepsTableLaws : AnswerKeepsTableLaws s (execRestartPhaseDone b s) := by
  unfold execRestartPhaseDone
  split
  · exact .same s
  · split
    · exact ((KeepsTableLaws.refl s).enterPhase ..).next
    all_goals exact .same s

theorem execAddressPhaseDone_keepsTableLaws (acknowledged : Bool) :
    AnswerKeepsTableLaws s (execAddressPhaseDone b acknowledged s) := by
  unfold execAddressPhaseDone
  split
  · exact .same s
  · split
    · split
      · exact (((KeepsTableLaws.refl s).updateJob ..).enterPhase ..).next
      · exact ((KeepsTableLaws.refl s).enterPhase ..).next
    · split <;> exact ((KeepsTableLaws.refl s).enterPhase ..).next
    all_goals exact .same s

theorem execWritingByteDone_keepsTableLaws (acknowledged : Bool) :
    AnswerKeepsTableLaws s (execWritingByteDone b acknowledged s) := by
  unfold execWritingByteDone
  split
  · exact .same s
  · split
    · split
      · exact (((KeepsTableLaws.refl s).updateJob ..).enterPhase ..).next
      · exact ((KeepsTableLaws.refl s).enterPhase ..).next
    all_goals exact .same s

theorem execReadingByteDone_keepsTableLaws (received : Byte) :
    AnswerKeepsTableLaws s (execReadingByteDone b received s) := by
  unfold execReadingByteDone
  split
  · exact .same s
  · split
    · exact (((KeepsTableLaws.refl s).updateJob ..).enterPhase ..).next
    all_goals exact .same s

theorem execStoppingDone_keepsTableLaws : AnswerKeepsTableLaws s (execStoppingDone b s) := by
  have stopped := s.setBranch_keepsTableLaws b (s.branch b).stopped
  unfold execStoppingDone
  split
  · exact .same s
  · split
    · simp only
      split
      · exact ((stopped.endOnWires ..).becomeIdle b).next
      · exact (((stopped.updateJob ..).settleRouteOf _).becomeIdle b).next
    all_goals exact .same s

theorem execStretchIntervalExpires_keepsTableLaws (seen : StretchEnd) :
    AnswerKeepsTableLaws s (execStretchIntervalExpires b seen s) := by
  have low := s.setBranch_keepsTableLaws b ((s.branch b).see ⟨false, seen.dataHigh⟩)
  unfold execStretchIntervalExpires
  split
  · exact .same s
  · split
    · exact .same s
    · split
      · exact ((low.endOnWires ..).enterRecovery ..).next
      · exact .same s

theorem execContradiction_keepsTableLaws (received : Byte) :
    AnswerKeepsTableLaws s (execContradiction b received s) := by
  have seen := s.setBranch_keepsTableLaws b ((s.branch b).see ⟨true, false⟩)
  unfold execContradiction
  split
  · exact .same s
  · split
    · refine KeepsTableLaws.next ?_
      split
      · split
        · exact seen.lossAfterAck ..
        · exact seen.lossBeforeAck ..
      · exact seen.busFault ..
    · exact .same s

theorem execStuckLineIntervalExpires_keepsTableLaws :
    AnswerKeepsTableLaws s (execStuckLineIntervalExpires b s) := by
  unfold execStuckLineIntervalExpires
  split
  · split
    · exact .same s
    · exact .ite ((KeepsTableLaws.refl s).enterRecovery ..)
  · exact .ite ((KeepsTableLaws.refl s).recoveryFails ..)
  all_goals exact .same s

theorem execRecoveryClockIntervalExpires_keepsTableLaws :
    AnswerKeepsTableLaws s (execRecoveryClockIntervalExpires b s) := by
  unfold execRecoveryClockIntervalExpires
  split
  · exact .same s
  · exact .ite ((s.setBranch_keepsTableLaws b _).recoveryFails ..)

theorem execRecoveryPulseDone_keepsTableLaws (dataHigh : Bool) :
    AnswerKeepsTableLaws s (execRecoveryPulseDone b dataHigh s) := by
  unfold execRecoveryPulseDone
  split
  · exact .same s
  · split
    · simp only
      split
      · exact ((s.setBranch_keepsTableLaws b _).recoveryFails ..).next
      · exact (s.setBranch_keepsTableLaws b _).next
    · exact .same s

theorem execRecoveryStopDone_keepsTableLaws (dataHigh : Bool) :
    AnswerKeepsTableLaws s (execRecoveryStopDone b dataHigh s) := by
  unfold execRecoveryStopDone
  split
  · exact .same s
  · split
    · exact (s.setBranch_keepsTableLaws b _).next
    · exact .same s

theorem execWatchCountdownExpires_keepsTableLaws (w : WatchId) :
    AnswerKeepsTableLaws s (execWatchCountdownExpires w s) := by
  unfold execWatchCountdownExpires
  split
  · exact .same s
  · exact .ite ((KeepsTableLaws.refl s).countdownExpires ..)

theorem execWaitingLateFailureCarriedOut_keepsTableLaws (r : RouteId) :
    AnswerKeepsTableLaws s (execWaitingLateFailureCarriedOut r s) := by
  refine KeepsTableLaws.next ?_
  split
  · exact .refl s
  · exact ((KeepsTableLaws.refl s).settleWaiting r).selectForRoute r

theorem execBranchLineLevelChange_keepsTableLaws (line : BusLine) (high : Bool) :
    AnswerKeepsTableLaws s (execBranchLineLevelChange b line high s) := by
  unfold execBranchLineLevelChange
  simp only
  split
  · exact .same s
  · exact (s.setBranch_keepsTableLaws b _).next

end

end Sys2Proof.Machine
end

section
/-! SUPPORT. The laws of the tables under the requests (R43 to R51, R129, R141, R149 to R152). -/

namespace Sys2Proof.Machine

/-! ### Changes of every watch keep the configurations -/

theorem Watch.routeChanged_config (r : RouteId) (y : Watch) : (y.routeChanged r).config = y.config := by
  unfold Watch.routeChanged
  split <;> rfl

theorem Watch.opened_config (y : Watch) : y.opened.config = y.config := by
  unfold Watch.opened
  split <;> simp [*]

theorem Watch.tick_config (y : Watch) : y.tick.config = y.config := by
  unfold Watch.tick
  split <;> rfl

theorem State.applyRestart_eq (s : State) :
    s.applyRestart = (List.finRange 4).foldl State.selectIfIdle s.restarted := rfl

section
variable {x s : State} (h : KeepsTableLaws x s)
include h

/-! ### Answers -/

theorem KeepsTableLaws.answer (f : Frame) (payload : List Byte) : KeepsTableLaws x (s.answer f payload) :=
  h.congr rfl rfl

theorem KeepsTableLaws.refuse (f : Frame) (st : Status) : KeepsTableLaws x (s.refuse f st) := h.answer f _

/-! ### The route requests -/

/-- ROUTE_SET is accepted only where no other route names the device (R45). -/
theorem KeepsTableLaws.routeSet (f : Frame) (form : RouteId × RouteConfig) :
    KeepsTableLaws x (s.routeSet f form) := by
  unfold State.routeSet
  split
  · exact h.refuse ..
  next accepted =>
    obtain ⟨-, -, single⟩ := State.routeSetRefusal_none.1 accepted
    exact ((h.configure single).mapWatches (Watch.routeChanged_config form.1)).congr rfl rfl

/-- ROUTE_CLEAR is accepted only where no watch refers to the route (R50). -/
theorem KeepsTableLaws.routeClear (f : Frame) (r : RouteId) : KeepsTableLaws x (s.routeClear f r) := by
  unfold State.routeClear
  split
  · exact h.refuse ..
  next accepted =>
    obtain ⟨-, -, unwatched, -⟩ := State.routeClearRefusal_none.1 accepted
    exact (h.free unwatched).answer ..

theorem KeepsTableLaws.holdRelease (f : Frame) (r : RouteId) : KeepsTableLaws x (s.holdRelease f r) := by
  unfold State.holdRelease
  split
  · exact h.refuse ..
  · refine KeepsTableLaws.answer ?_ f _
    exact h.setRoute r rfl id

theorem KeepsTableLaws.presenceReset (f : Frame) (r : RouteId) : KeepsTableLaws x (s.presenceReset f r) := by
  unfold State.presenceReset
  split
  · exact (h.resetPresence r).answer ..
  · exact h.refuse ..

/-! ### The watch requests -/

/-- WATCH_SET is accepted only for a route that is configured (R150). -/
theorem KeepsTableLaws.watchSet (f : Frame) (form : WatchId × WatchConfig) : KeepsTableLaws x (s.watchSet f form) := by
  unfold State.watchSet
  simp only
  split
  · exact h.refuse ..
  next configured =>
    have routed : (s.route form.2.route).config ≠ none := Route.configured_iff.1 (by simpa using configured)
    split
    · exact h.refuse ..
    · refine KeepsTableLaws.congr (h.setWatch_routed form.1 (v := (s.watch form.1).configure form.2) ?_) rfl rfl
      rintro c ⟨⟩
      exact routed

theorem KeepsTableLaws.watchClear (f : Frame) (w : WatchId) : KeepsTableLaws x (s.watchClear f w) := by
  unfold State.watchClear
  simp only
  split
  · exact h.refuse ..
  · split
    · exact h.refuse ..
    · refine KeepsTableLaws.congr (h.setWatch_routed w (v := (s.watch w).cleared) ?_) rfl rfl
      rintro c ⟨⟩

/-! ### The branch and transfer requests -/

theorem KeepsTableLaws.branchSet (f : Frame) (form : BranchId × BranchConfig) :
    KeepsTableLaws x (s.branchSet f form) := by
  unfold State.branchSet
  simp only
  split
  · exact h.congr rfl rfl
  · exact h.refuse ..

theorem KeepsTableLaws.branchReset (f : Frame) (b : BranchId) : KeepsTableLaws x (s.branchReset f b) := by
  have pending : KeepsTableLaws x (s.setPendingReset b (some f.tag)) := h.congr rfl rfl
  unfold State.branchReset
  split
  · exact h.refuse ..
  · exact pending.enterRecovery ..
  · exact pending.enterRecovery ..
  all_goals exact h.refuse ..

theorem KeepsTableLaws.acceptPosted (f : Frame) (y : XferForm) (c : RouteConfig) (slot : SlotId) :
    KeepsTableLaws x (s.acceptPosted f y c slot) := by
  refine ((KeepsTableLaws.answer ?_ f _).jobJoins y.route).acceptJob _
  exact h.setRoute y.route rfl id

theorem KeepsTableLaws.xfer (f : Frame) (y : XferForm) : KeepsTableLaws x (s.xfer f y) := by
  unfold State.xfer
  split
  · exact h.refuse ..
  · exact h.refuse ..
  · exact h.refuse ..
  · split
    · exact h.acceptPosted ..
    · exact (h.jobJoins y.route).acceptJob _

theorem KeepsTableLaws.broadcast (f : Frame) (y : BroadcastForm) : KeepsTableLaws x (s.broadcast f y) := by
  unfold State.broadcast
  split
  · exact h.refuse ..
  · split
    · exact h.refuse ..
    · exact h.acceptJob _

theorem KeepsTableLaws.cancel (atBoundary : Bool) (f : Frame) (target : Byte) :
    KeepsTableLaws x (s.cancel atBoundary f target) := by
  have answered (st : Status) : KeepsTableLaws x (s.answerCancel f target st) := h.answer ..
  unfold State.cancel
  split
  · exact answered _
  · split
    · exact ((h.endJob ..).answer ..).selectIfIdle _
    · exact ((h.endJob ..).answer ..).selectIfIdle _
    · exact h.congr rfl rfl
    all_goals exact answered _

/-! ### The session requests -/

theorem KeepsTableLaws.open_ (credits : Nat) : KeepsTableLaws x (s.open_ credits) :=
  (h.mapWatches Watch.opened_config).congr rfl rfl

theorem KeepsTableLaws.closeRemoves (j : Job) : KeepsTableLaws x (closeRemoves s j) := by
  unfold Machine.closeRemoves
  split
  · exact (h.removeJob j).congr rfl rfl
  · exact (h.deliver ..).congr rfl rfl
  · exact h.removeJob j

theorem KeepsTableLaws.beginClose (boundary : List BranchId) : KeepsTableLaws x (s.beginClose boundary) := by
  have begun : KeepsTableLaws x s.closeBegun :=
    (h.mapWatches (g := Watch.disarmed) fun _ => rfl).congr rfl rfl
  rw [State.beginClose_eq]
  refine .foldl (fun j k => ?_) _ (.foldl (fun j k => k.closeRemoves j) _ begun)
  exact k.congr rfl rfl

theorem KeepsTableLaws.testClose : KeepsTableLaws x s.testClose := by
  have completed : KeepsTableLaws x s.completeClose := by
    rw [State.completeClose_eq]
    exact (h.mapTables (f := Route.unheld) (g := Watch.forgotten) (fun _ => ⟨rfl, id⟩) fun _ => rfl).congr rfl rfl
  unfold State.testClose
  split
  · exact completed
  · exact h

theorem KeepsTableLaws.close (tag : Byte) (boundary : List BranchId) : KeepsTableLaws x (s.close tag boundary) := by
  have pending : KeepsTableLaws x (s.closePending tag) := h.congr rfl rfl
  exact (pending.beginClose boundary).testClose

theorem KeepsTableLaws.restartTaken (tag : Byte) (boundary : List BranchId) :
    KeepsTableLaws x (s.restartTaken tag boundary) := by
  have pending : KeepsTableLaws x (s.restartPending tag) := h.congr rfl rfl
  by_cases opened : s.session = .opened
  · rw [State.restartTaken_opened opened]
    exact (pending.beginClose boundary).testClose
  · rw [State.restartTaken_other opened]
    exact h.congr rfl rfl

/-- The restart effects keep every configuration, and the judgements start from nothing (R42). -/
theorem KeepsTableLaws.applyRestart : KeepsTableLaws x s.applyRestart := by
  have restarted : KeepsTableLaws x s.restarted :=
    (h.mapTables (f := Route.restarted) (g := Watch.restarted)
      (fun _ => ⟨rfl, fun _ => Route.streaksInRange_zero rfl rfl⟩) fun _ => rfl).congr rfl rfl
  rw [State.applyRestart_eq]
  exact .foldl (fun b k => k.selectIfIdle b) _ restarted

end

/-- What only the receiver has changed leaves the tables alone. -/
theorem KeepsTableLaws.of_behind {s t : State} (h : t.behindReceiver = s.behindReceiver) : KeepsTableLaws s t :=
  (KeepsTableLaws.refl s).congr (congrArg State.routes h :) (congrArg State.watches h :)

theorem State.choose_keepsTableLaws (s : State) : KeepsTableLaws s s.choose := by
  unfold State.choose
  repeat' split
  all_goals exact (KeepsTableLaws.refl s).congr rfl rfl

theorem KeepsTableLaws.tick (s : State) : KeepsTableLaws s s.tick :=
  ((KeepsTableLaws.refl s).mapWatches Watch.tick_config).congr rfl rfl

/-- A request whose action keeps the three laws. -/
theorem State.request_keepsTableLaws {α : Type} (s : State) (k : Kind) (form : List Byte → Option α)
    {act : State → Frame → α → State} (acts : ∀ {t} f a, KeepsTableLaws s t → KeepsTableLaws s (act t f a)) :
    AnswerKeepsTableLaws s (.next (s.request k form act)) := by
  refine KeepsTableLaws.next ?_
  have taken (f : Frame) (rest : List Frame) : KeepsTableLaws s (s.taken f rest) :=
    (KeepsTableLaws.refl s).congr rfl rfl
  rcases s.request_cases k form act with h | ⟨f, rest, -, -, -, ⟨st, -, h⟩ | ⟨a, -, h⟩⟩
  · rw [h]
    exact .refl s
  · rw [h]
    exact (taken f rest).congr rfl rfl
  · rw [h]
    exact (acts f a (taken f rest)).congr rfl rfl

theorem State.take_tables {s t : State} {wanted : Byte → Bool} {f : Frame} (h : s.take wanted = some (f, t)) :
    t.routes = s.routes ∧ t.watches = s.watches := by
  unfold State.take at h
  split at h
  · cases h
  · split at h <;> cases h
    exact ⟨rfl, rfl⟩

theorem requestOfUnknownKind_keepsTableLaws (s : State) : AnswerKeepsTableLaws s (execRequestOfUnknownKind s) := by
  unfold execRequestOfUnknownKind
  split
  · exact .same s
  next f t take =>
    obtain ⟨routes, watches⟩ := State.take_tables take
    exact KeepsTableLaws.next ((KeepsTableLaws.refl s).congr routes watches)

/-- Every command keeps the three laws of the tables. -/
theorem exec_keepsTableLaws (c : Instr) (s : State) : AnswerKeepsTableLaws s (exec c s) := by
  cases c with
  | fullReset cause lspd lines =>
    rw [exec_fullReset]
    refine KeepsTableLaws.next ?_
    exact (KeepsTableLaws.reset s).congr rfl rfl
  | byteArrives c => exact (KeepsTableLaws.of_behind (s.receive_behind _)).next
  | gapIntervalExpires =>
    rw [exec_gapIntervalExpires, execGapIntervalExpires]
    split
    · exact .same s
    · exact .ite (.of_behind rfl)
  | transmitStart =>
    rw [exec_transmitStart, execTransmitStart]
    split
    · exact s.choose_keepsTableLaws.next
    · exact .same s
  | frameTransmitted =>
    rw [exec_frameTransmitted, execFrameTransmitted]
    split
    · exact .same s
    · exact KeepsTableLaws.next ((KeepsTableLaws.refl s).congr rfl rfl)
  | restartEffects =>
    rw [exec_restartEffects, execRestartEffects]
    split
    · exact (KeepsTableLaws.refl s).applyRestart.next
    · exact .same s
  | requestOfUnknownKind => exact requestOfUnknownKind_keepsTableLaws s
  | hello => exact s.request_keepsTableLaws .hello readEmpty fun f _ k => k.answer f _
  | openSession => exact s.request_keepsTableLaws .openSession readOpen fun f credits k => (k.open_ credits).answer f _
  | closeSession boundary => exact s.request_keepsTableLaws .close readEmpty fun f _ k => k.close f.tag boundary
  | closeProcedureCompletes => exact .ite (KeepsTableLaws.refl s).testClose
  | restart boundary => exact s.request_keepsTableLaws .restart readEmpty fun f _ k => k.restartTaken f.tag boundary
  | status => exact s.request_keepsTableLaws .status readStatus fun f _ k => k.congr rfl rfl
  | credit => exact s.request_keepsTableLaws .credit readCredit fun f _ k => k.congr rfl rfl
  | routeSet => exact s.request_keepsTableLaws .routeSet readRouteSet fun f form k => k.routeSet f form
  | routeGet => exact s.request_keepsTableLaws .routeGet readRoute fun f _ k => k.answer f _
  | routeClear => exact s.request_keepsTableLaws .routeClear readRoute fun f r k => k.routeClear f r
  | holdRelease => exact s.request_keepsTableLaws .holdRelease readRoute fun f r k => k.holdRelease f r
  | presenceReset => exact s.request_keepsTableLaws .presenceReset readRoute fun f r k => k.presenceReset f r
  | branchSet => exact s.request_keepsTableLaws .branchSet readBranchSet fun f form k => k.branchSet f form
  | branchGet => exact s.request_keepsTableLaws .branchGet readBranch fun f _ k => k.answer f _
  | branchReset => exact s.request_keepsTableLaws .branchReset readBranch fun f b k => k.branchReset f b
  | xfer => exact s.request_keepsTableLaws .xfer readXfer fun f y k => k.xfer f y
  | broadcast => exact s.request_keepsTableLaws .broadcast readBroadcast fun f y k => k.broadcast f y
  | cancel atBoundary => exact s.request_keepsTableLaws .cancel readCancel fun f y k => k.cancel atBoundary f y
  | watchSet => exact s.request_keepsTableLaws .watchSet readWatchSet fun f form k => k.watchSet f form
  | watchGet => exact s.request_keepsTableLaws .watchGet readWatch fun f _ k => k.answer f _
  | watchClear => exact s.request_keepsTableLaws .watchClear readWatch fun f w k => k.watchClear f w
  | jobDeadlineExpires slot atBoundary => exact execJobDeadlineExpires_keepsTableLaws s slot atBoundary
  | retryWaitEnds slot => exact execRetryWaitEnds_keepsTableLaws s slot
  | busFreeSet b => exact execBusFreeSet_keepsTableLaws s b
  | stuckLineIntervalExpires b => exact execStuckLineIntervalExpires_keepsTableLaws s b
  | startPhaseDone b => exact execStartPhaseDone_keepsTableLaws s b
  | addressPhaseDone b acknowledged => exact execAddressPhaseDone_keepsTableLaws s b acknowledged
  | writingByteDone b acknowledged => exact execWritingByteDone_keepsTableLaws s b acknowledged
  | readingByteDone b received => exact execReadingByteDone_keepsTableLaws s b received
  | restartPhaseDone b => exact execRestartPhaseDone_keepsTableLaws s b
  | stoppingDone b => exact execStoppingDone_keepsTableLaws s b
  | stretchIntervalExpires b seen => exact execStretchIntervalExpires_keepsTableLaws s b seen
  | contradiction b received => exact execContradiction_keepsTableLaws s b received
  | recoveryClockIntervalExpires b => exact execRecoveryClockIntervalExpires_keepsTableLaws s b
  | recoveryPulseDone b dataHigh => exact execRecoveryPulseDone_keepsTableLaws s b dataHigh
  | recoveryStopDone b dataHigh => exact execRecoveryStopDone_keepsTableLaws s b dataHigh
  | watchCountdownExpires w => exact execWatchCountdownExpires_keepsTableLaws s w
  | waitingLateFailureCarriedOut r => exact execWaitingLateFailureCarriedOut_keepsTableLaws s r
  | branchLineLevelChange b line high => exact execBranchLineLevelChange_keepsTableLaws s b line high

/-- Settles O56: every command keeps the three laws, and the passing of a ms leaves every configuration and every streak
as it is. -/
theorem everyStepKeepsTheTableLaws : Obligations.EveryStepKeepsTheTableLaws := by
  intro s t h
  have kept : KeepsTableLaws s t := by
    unfold step at h
    split at h
    next =>
      cases h
      exact .tick s
    next c rest _ =>
      obtain ⟨u, next, laws⟩ := exec_keepsTableLaws c { s with pending := rest }
      cases next.symm.trans h
      exact ⟨laws.devices, laws.streaks, laws.watches⟩
  exact ⟨kept.devices, kept.streaks, kept.watches⟩

end Sys2Proof.Machine
end

section
/-! The statements about the route table, settled (R43 to R51, R84, R129, R153). -/

namespace Sys2Proof.Machine

/-! ### A request taken in OPEN and answered -/

/-- A request taken in OPEN whose action is its answer. -/
theorem Asks.answers {α : Type} {s : State} {f : Frame} {rest : List Frame} {k : Kind} (h : Asks s f rest k)
    (opened : s.session = .opened) (hk : k ≠ .openSession) (hd : k.deferrable = false) {form : List Byte → Option α}
    {act : State → Frame → α → State} {a : α} (formed : form f.payload = some a) {payload : List Byte}
    (acts : act (s.taken f rest) f a = (s.taken f rest).answer f payload) :
    s.request k form act = s.afterReply rest ⟨k.code + 0x80, f.tag, payload⟩ := by
  rw [h.act_open opened hk hd form act formed, acts, h.ready.answered, h.kind]

/-- A request taken in OPEN whose action sets a route and answers. -/
theorem Asks.sets_route {α : Type} {s : State} {f : Frame} {rest : List Frame} {k : Kind} (h : Asks s f rest k)
    (opened : s.session = .opened) (hk : k ≠ .openSession) (hd : k.deferrable = false) {form : List Byte → Option α}
    {act : State → Frame → α → State} {a : α} (formed : form f.payload = some a) {r : RouteId} {v : Route}
    {payload : List Byte} (acts : act (s.taken f rest) f a = ((s.taken f rest).setRoute r v).answer f payload) :
    s.request k form act = (s.afterReply rest ⟨k.code + 0x80, f.tag, payload⟩).setRoute r v := by
  rw [h.act_open opened hk hd form act formed, acts, ← h.kind, ← h.ready.answered]
  rfl

theorem readRoute_byte (r : RouteId) : readRoute [byte r.val] = some r := readIndex_byte (by decide) r

theorem readBranch_byte (b : BranchId) : readBranch [byte b.val] = some b := readIndex_byte (by decide) b

theorem readWatch_byte (w : WatchId) : readWatch [byte w.val] = some w := readIndex_byte (by decide) w

/-- Settles O21: the payloads of the three replies are laid out as the statement has them, field by field. -/
theorem getsReportTheRecord : Obligations.GetsReportTheRecord := by
  intro f rest s opened
  have reported {k : Kind} {p q : List Byte} (same : p = q) :
      s.afterReply rest ⟨k.code + 0x80, f.tag, p⟩ = s.afterReply rest ⟨k.code + 0x80, f.tag, q⟩ := by rw [same]
  refine ⟨fun r asks payload => ?_, fun b asks payload => ?_, fun w asks payload => ?_⟩
  · have formed : readRoute f.payload = some r := by rw [payload, readRoute_byte]
    refine congrArg Host.Outcome.next ((asks.answers opened (by decide) rfl formed rfl).trans (reported ?_))
    show routeGetPayload s r = _
    rw [routeGetPayload, s.watchesOf_eq, Route.held]
    cases (s.route r).config <;> cases (s.route r).hold <;>
      simp [optionalField, flagByte, HoldRecord.bytes, Status.code]
  · have formed : readBranch f.payload = some b := by rw [payload, readBranch_byte]
    exact congrArg Host.Outcome.next ((asks.answers opened (by decide) rfl formed rfl).trans (reported rfl))
  · have formed : readWatch f.payload = some w := by rw [payload, readWatch_byte]
    refine congrArg Host.Outcome.next ((asks.answers opened (by decide) rfl formed rfl).trans (reported ?_))
    show watchGetPayload s w = _
    rw [watchGetPayload]
    cases (s.watch w).config <;> cases (s.watch w).lastValue <;> rfl

/-- Settles O22: the checks of ROUTE_CLEAR one after another, and the hold of HOLD_RELEASE. -/
theorem routeClearAndHoldRelease : Obligations.RouteClearAndHoldRelease := by
  refine ⟨fun f rest r s asks opened payload => ?_, fun f rest r s asks opened payload => ?_⟩
  · have formed : readRoute f.payload = some r := by rw [payload, readRoute_byte]
    have refused {st : Status} (refusal : s.routeClearRefusal r = some st) :
        exec .routeClear s = .next (s.afterReply rest ⟨0x92, f.tag, [st.code]⟩) := by
      have acts : (s.taken f rest).routeClear f r = (s.taken f rest).refuse f st := by
        rw [State.routeClear, show (s.taken f rest).routeClearRefusal r = some st from refusal]
      exact congrArg Host.Outcome.next (asks.answers opened (by decide) rfl formed acts)
    refine ⟨fun held => ?_, fun free used => ?_, fun free unused unwatched absent => ?_,
      fun free unused unwatched configured => ?_⟩
    · exact refused (st := .routeHeld) (by simp [State.routeClearRefusal, Route.held_iff, held])
    · exact refused (st := .routeInUse)
        (by simp [State.routeClearRefusal, Route.held, free, State.watchesOf_pos, used])
    · exact refused (st := .badRoute)
        (by simp [State.routeClearRefusal, Route.held, free, unused, State.watchesOf_pos, unwatched, Route.configured,
          absent])
    · have accepted : (s.taken f rest).routeClearRefusal r = none :=
        State.routeClearRefusal_none.2 ⟨free, unused, unwatched, configured⟩
      have acts : (s.taken f rest).routeClear f r =
          ((s.taken f rest).setRoute r (s.route r).freed).answer f [Status.code .ok, byte r.val] := by
        rw [State.routeClear, accepted]
        rfl
      have freed : (s.route r).freed = ⟨none, .unknown, 0, 0, none, 1, 0, (s.route r).waiting⟩ := by
        rw [Route.freed, free, unused]
      rw [← freed]
      exact congrArg Host.Outcome.next (asks.sets_route opened (by decide) rfl formed acts)
  · have formed : readRoute f.payload = some r := by rw [payload, readRoute_byte]
    refine ⟨fun h held => ?_, fun free => ?_⟩
    · have acts : (s.taken f rest).holdRelease f r =
          ((s.taken f rest).setRoute r { s.route r with hold := none }).answer f
            ([Status.code .ok, byte r.val] ++ h.bytes) := by
        rw [State.holdRelease, show ((s.taken f rest).route r).hold = some h from held]
        rfl
      exact congrArg Host.Outcome.next (asks.sets_route opened (by decide) rfl formed acts)
    · have acts : (s.taken f rest).holdRelease f r = (s.taken f rest).refuse f .notHeld := by
        rw [State.holdRelease, show ((s.taken f rest).route r).hold = none from free]
      exact congrArg Host.Outcome.next (asks.answers opened (by decide) rfl formed acts)

/-- An accepted ROUTE_SET: its reply, and what it does to the tables and the notices (R46, R47). -/
theorem Asks.configures {s : State} {f : Frame} {rest : List Frame} (h : Asks s f rest .routeSet)
    (opened : s.session = .opened) {r : RouteId} {c : RouteConfig} (formed : readRouteSet f.payload = some (r, c))
    (accepted : s.routeSetRefusal r c = none) : exec .routeSet s = .next { s.afterReply rest ⟨0x90, f.tag,
        [0x00, byte r.val, flagByte (s.route r).config.isSome,
          byte ((List.finRange 16).countP fun w => (s.watch w).refersTo r)]⟩ with
      routes := s.routes.set r ((s.route r).configure c)
      watches := mapTable (Watch.routeChanged r) s.watches
      notices := s.notices.map (Notice.seal fun w => (s.watch w).refersTo r) } := by
  have acts : (s.taken f rest).routeSet f (r, c) = ((s.taken f rest).configureRoute r c).answer f
      [Status.code .ok, byte r.val, flagByte (s.route r).configured, byte (s.watchesOf r)] := by
    rw [State.routeSet, show (s.taken f rest).routeSetRefusal r c = none from accepted]
    rfl
  refine congrArg Host.Outcome.next ((h.act_open opened (by decide) rfl readRouteSet State.routeSet formed).trans ?_)
  rw [acts, s.watchesOf_eq]
  simp only [State.endTake, State.answer, State.pushReply, Frame.replyWith, State.afterReply, h.kind, ← h.ready.free]
  rfl

/-- The notices sealed are the CHANGE notices of the watches named (R47, R166). -/
theorem Notice.seal_eq (p : WatchId → Bool) (n : Notice) : n.seal p = match n.body with
    | .change x => if p x.watch then { n with sealed := true } else n
    | _ => n := by
  unfold Notice.seal
  cases n.body <;> rfl

/-- Settles O20: the checks of ROUTE_SET one after another, and then the tables and the notices entry by entry. -/
theorem routeSet : Obligations.RouteSet := by
  refine ⟨fun f rest r c s asks opened range payload => ?_,
    fun f rest r c s asks opened range payload free unused single => ?_⟩
  · have formed : readRouteSet f.payload = some (r, c) := by rw [payload, readRouteSet_bytes range]
    have refused {st : Status} (refusal : s.routeSetRefusal r c = some st) :
        exec .routeSet s = .next (s.afterReply rest ⟨0x90, f.tag, [st.code]⟩) := by
      have acts : (s.taken f rest).routeSet f (r, c) = (s.taken f rest).refuse f st := by
        rw [State.routeSet, show (s.taken f rest).routeSetRefusal r c = some st from refusal]
      exact congrArg Host.Outcome.next (asks.answers opened (by decide) rfl formed acts)
    refine ⟨fun held => ?_, fun free used => ?_, fun free unused repeated => ?_⟩
    · exact refused (st := .routeHeld) (by simp [State.routeSetRefusal, Route.held_iff, held])
    · exact refused (st := .routeInUse) (by simp [State.routeSetRefusal, Route.held, free, used])
    · exact refused (st := .duplicate)
        (by simp [State.routeSetRefusal, Route.held, free, unused, State.duplicate_iff.2 repeated])
  · have formed : readRouteSet f.payload = some (r, c) := by rw [payload, readRouteSet_bytes range]
    have fresh : s.duplicate r c = false := by
      rw [← Bool.not_eq_true, State.duplicate_iff]
      rintro ⟨q, other, d, config, same⟩
      exact single q other d config same
    have accepted : s.routeSetRefusal r c = none := State.routeSetRefusal_none.2 ⟨free, unused, fresh⟩
    refine ⟨_, asks.configures opened formed accepted, rfl, fun q => ?_, fun w => ?_, ?_⟩
    · refine (s.route_setRoute r q _).trans ?_
      by_cases e : r = q
      · rw [if_pos e, if_pos e.symm]
        rfl
      · rw [if_neg e, if_neg (Ne.symm e)]
    · exact mapTable_getElem (Watch.routeChanged r) s.watches w.val w.isLt
    · exact List.map_congr_left fun n _ => Notice.seal_eq _ n

end Sys2Proof.Machine
end

section
/-! SUPPORT. Where a job joins its branch queue, and which job a selection takes (R65, R66). -/

namespace Sys2Proof.Machine

/-! ### The place of a job (R65) -/

/-- The queue is cut just after the last job that meets the test, or at its head if none does. -/
theorem insertAfterLast_split (p : Job → Bool) (j : Job) : ∀ q : List Job, ∃ front back : List Job,
    q = front ++ back ∧ insertAfterLast p j q = front ++ j :: back ∧ (∀ i ∈ back, p i = false) ∧
      (front = [] ∨ ∃ front' i, front = front' ++ [i] ∧ p i = true)
  | [] => ⟨[], [], rfl, rfl, by simp, .inl rfl⟩
  | i :: q => by
    by_cases met : (p i || q.any p) = true
    · obtain ⟨front, back, cut, inserted, after, last⟩ := insertAfterLast_split p j q
      refine ⟨i :: front, back, by rw [cut]; rfl, ?_, after, .inr ?_⟩
      · rw [insertAfterLast, if_pos met, inserted]
        rfl
      · rcases last with rfl | ⟨front', k, rfl, meets⟩
        · refine ⟨[], i, rfl, ?_⟩
          have none : q.any p = false := List.any_eq_false.2 fun k hk => by
            rw [cut, List.nil_append] at hk
            simp [after k hk]
          simpa [none] using met
        · exact ⟨i :: front', k, rfl, meets⟩
    · obtain ⟨this, others⟩ : p i = false ∧ q.any p = false := by simpa using met
      refine ⟨[], i :: q, rfl, by rw [insertAfterLast, if_neg met]; rfl, fun k hk => ?_, .inl rfl⟩
      rcases List.mem_cons.1 hk with rfl | hk
      · exact this
      · simpa using List.any_eq_false.1 others k hk

/-! ### The selection (R66) -/

/-- The job is QUEUED, and no job of its route stands in `front`, nor is its route among those passed before. -/
def Job.Eligible (ahead : List (Option RouteId)) (front : List Job) (j : Job) : Prop :=
  j.state = .queued ∧ j.route ∉ ahead ∧ ∀ i ∈ front, i.route ≠ j.route

theorem Job.eligible_cons {ahead : List (Option RouteId)} {i j : Job} {front : List Job} :
    j.Eligible ahead (i :: front) ↔ j.Eligible (i.route :: ahead) front := by
  unfold Job.Eligible
  simp only [List.mem_cons, forall_eq_or_imp, not_or, ne_comm (a := i.route), and_assoc, ne_eq]
  tauto

theorem Job.eligible_nil {front : List Job} {j : Job} :
    j.Eligible [] front ↔ j.state = .queued ∧ ∀ i ∈ front, i.route ≠ j.route := by
  simp [Job.Eligible]

/-- No job of `front` is eligible where it stands. -/
def NoneEligible (ahead : List (Option RouteId)) (front : List Job) : Prop :=
  ∀ front' i back', front = front' ++ i :: back' → ¬ i.Eligible ahead front'

theorem noneEligible_nil (ahead : List (Option RouteId)) : NoneEligible ahead [] := by
  intro front' i back' cut
  simp at cut

theorem NoneEligible.cons {ahead : List (Option RouteId)} {i : Job} {front : List Job}
    (head : ¬ i.Eligible ahead []) (rest : NoneEligible (i.route :: ahead) front) : NoneEligible ahead (i :: front) := by
  intro front' k back' cut
  cases front' with
  | nil =>
    obtain ⟨rfl, -⟩ := List.cons_eq_cons.1 cut
    exact head
  | cons k' front' =>
    obtain ⟨rfl, tail⟩ := List.cons_eq_cons.1 cut
    rw [Job.eligible_cons]
    exact rest front' k back' tail

theorem firstEligible_first {q : List Job} : ∀ {ahead : List (Option RouteId)} {j : Job},
    firstEligible ahead q = some j → ∃ front back, q = front ++ j :: back ∧ j.Eligible ahead front ∧
      NoneEligible ahead front := by
  induction q with
  | nil => intro ahead j h; simp [firstEligible] at h
  | cons i q ih =>
    intro ahead j h
    unfold firstEligible at h
    split at h
    · next eligible =>
      cases h
      exact ⟨[], q, rfl, ⟨eligible.1, eligible.2, by simp⟩, noneEligible_nil ahead⟩
    · next not =>
      obtain ⟨front, back, rfl, eligible, none⟩ := ih h
      exact ⟨i :: front, back, rfl, Job.eligible_cons.2 eligible, none.cons fun e => not ⟨e.1, e.2.1⟩⟩

theorem firstEligible_none {q : List Job} : ∀ {ahead : List (Option RouteId)},
    firstEligible ahead q = none → NoneEligible ahead q := by
  induction q with
  | nil => intro ahead _; exact noneEligible_nil ahead
  | cons i q ih =>
    intro ahead h
    unfold firstEligible at h
    split at h
    · cases h
    · next not => exact (ih h).cons fun e => not ⟨e.1, e.2.1⟩

/-- Settles O30: the place by `insertAfterLast_split`, the selection by induction along the queue. -/
theorem queuePlaceAndSelection : Obligations.QueuePlaceAndSelection := by
  refine ⟨fun j q => ?_, fun q => ⟨fun j found => ?_, fun none front i back cut eligible => ?_⟩⟩
  · cases urgent : j.urgent with
    | false => exact ⟨q, [], by simp, by simp [placeJob, urgent], by simp, by simp⟩
    | true =>
      obtain ⟨front, back, cut, placed, after, last⟩ :=
        insertAfterLast_split (fun i => i.urgent || decide (i.route = j.route)) j q
      refine ⟨front, back, cut, by rw [placeJob, if_pos urgent, placed], by simp, fun _ => ⟨fun i hi => ?_, ?_⟩⟩
      · simpa using after i hi
      · simpa using last
  · obtain ⟨front, back, cut, eligible, none⟩ := firstEligible_first found
    exact ⟨front, back, cut, Job.eligible_nil.1 eligible,
      fun front' i back' cut' e => none front' i back' cut' (Job.eligible_nil.2 e)⟩
  · exact firstEligible_none none front i back cut (Job.eligible_nil.2 eligible)

end Sys2Proof.Machine
end

section
/-! SUPPORT. What an engine that selects does (R67, R87 to R89, R108, R109). -/

namespace Sys2Proof.Machine

section
variable {s : State} {b : BranchId}

theorem State.selectIfIdle_busy (h : (s.branch b).engine ≠ .idle) : s.selectIfIdle b = s := by
  unfold State.selectIfIdle
  cases engine : (s.branch b).engine with
  | idle => exact absurd engine h
  | _ => rfl

theorem State.selectIfIdle_none (h : firstEligible [] (s.branch b).queue = none) : s.selectIfIdle b = s := by
  unfold State.selectIfIdle
  rw [h]
  cases (s.branch b).engine <;> rfl

theorem State.selectIfIdle_some {j : Job} (idle : (s.branch b).engine = .idle)
    (found : firstEligible [] (s.branch b).queue = some j) : s.selectIfIdle b = s.startJob b j := by
  unfold State.selectIfIdle
  rw [idle, found]

end

/-- The branch as its engine begins to conduct the job (R57, R87, R91). -/
def Branch.starting (br : Branch) (j : Job) : Branch :=
  { br with
    lines := ⟨br.lines.clockHigh, false⟩
    busFree := false
    engine := .active ⟨j.slot, .start, none⟩
    queue := br.queue.map fun i => if i.slot = j.slot then { i with state := .active } else i }

/-- The branch as its engine waits for the bus (R89). -/
def Branch.waiting (br : Branch) (now : Nat) : Branch :=
  { br with engine := .waitFree (stuckOnEntry now br.config.stretchLimit br.lines) }

/-- A selected job of the branch, by what the line monitor shows: it starts, meets a recovery, or waits (R88). -/
theorem State.startJob_eq (s : State) {b : BranchId} {j : Job} (branch : j.branch = b) : s.startJob b j = s.setBranch b
    (if (s.branch b).busFree then (s.branch b).starting j
    else if (s.branch b).config.multi = false ∧ (s.branch b).lines = ⟨true, false⟩ then
      (s.branch b).recoverUnderHighClock s.now .busFault
    else (s.branch b).waiting s.now) := by
  subst branch
  unfold State.startJob
  simp only
  split
  · unfold State.beginStart State.updateJob
    rw [State.branch_setBranch_self, State.setBranch_setBranch]
    rfl
  · have test : (!(s.branch j.branch).config.multi && (s.branch j.branch).lines.clockHigh &&
        !(s.branch j.branch).lines.dataHigh) = true ↔
        (s.branch j.branch).config.multi = false ∧ (s.branch j.branch).lines = ⟨true, false⟩ := by
      rcases (s.branch j.branch).lines with ⟨clock, data⟩
      simp [and_assoc]
    by_cases stuck : (s.branch j.branch).config.multi = false ∧ (s.branch j.branch).lines = ⟨true, false⟩
    · rw [if_pos (test.2 stuck), if_pos stuck]
      exact if_pos (by rw [stuck.2])
    · rw [if_neg (mt test.1 stuck), if_neg stuck]
      rfl

/-- Settles O31: the three ways a selected job can go are those of `State.startJob_eq`. -/
theorem selectedJobStartsByTheMonitor : Obligations.SelectedJobStartsByTheMonitor := by
  refine fun s b => ⟨State.selectIfIdle_busy, State.selectIfIdle_none, fun j idle found branch => ?_⟩
  rw [State.selectIfIdle_some idle found, s.startJob_eq branch]
  refine congrArg (s.setBranch b) ?_
  by_cases free : (s.branch b).busFree = true
  · rw [if_pos free, if_pos free]
    rfl
  · have clear : (s.branch b).busFree = false := by simpa using free
    rw [if_neg free, if_neg free]
    split
    · next stuck =>
      simp [Branch.recoverUnderHighClock, Branch.pullsClock, stuck.2, clear]
    · refine congrArg (fun x => { s.branch b with engine := Engine.waitFree x }) ?_
      rw [stuckOnEntry]
      rcases (s.branch b).lines with ⟨clock, data⟩
      cases clock <;> cases data <;> rfl

end Sys2Proof.Machine
end

section
/-! SUPPORT. The law of the pool under every command (R58, R64). -/

namespace Sys2Proof.Machine

/-! ### A job joins the pool -/

/-- Lists joined one after another, where the list of one place gains an element. -/
theorem flatMap_gains {α β : Type} {f g : α → List β} {a : α} {x : β} (here : (g a).Perm (x :: f a))
    (away : ∀ k, k ≠ a → g k = f k) : ∀ {l : List α}, l.Nodup → a ∈ l → (l.flatMap g).Perm (x :: l.flatMap f)
  | k :: l, nodup, mem => by
    obtain ⟨fresh, nodup⟩ := List.nodup_cons.1 nodup
    rw [List.flatMap_cons, List.flatMap_cons]
    by_cases e : k = a
    · have rest : l.flatMap g = l.flatMap f := List.flatMap_congr fun i hi => away i fun same => fresh (by rwa [e, ← same])
      rw [e, rest]
      exact here.append_right _
    · rw [away k e]
      have more := flatMap_gains here away nodup ((List.mem_cons.1 mem).resolve_left (Ne.symm e))
      exact (more.append_left _).trans List.perm_middle

theorem State.placeInQueue_jobs (s : State) (j : Job) : (s.placeInQueue j).jobs.Perm (j :: s.jobs) := by
  rw [State.jobs_eq, State.jobs_eq]
  refine flatMap_gains (a := j.branch) ?_ (fun k away => ?_) (List.nodup_finRange 4) (List.mem_finRange _)
  · rw [State.placeInQueue, State.branch_setBranch_self]
    exact placeJob_perm ..
  · rw [State.placeInQueue, State.branch_setBranch, if_neg (Ne.symm away)]

/-- A job in a slot of its own joins the queue of its branch (R58, R64). -/
theorem PoolLaw.placeInQueue {s : State} (law : PoolLaw s) {j : Job} (fresh : ∀ i ∈ s.jobs, i.slot ≠ j.slot)
    (room : j.isHost = true → s.hostJobs < 20) : PoolLaw (s.placeInQueue j) := by
  have jobs := s.placeInQueue_jobs j
  refine ⟨fun b i hi => ?_, ?_, ?_⟩
  · rw [State.placeInQueue, State.branch_setBranch] at hi
    split at hi
    · next e =>
      subst e
      rcases mem_placeJob.1 hi with rfl | hi
      · rfl
      · exact law.placed _ i hi
    · exact law.placed b i hi
  · refine (jobs.map (·.slot)).nodup_iff.2 (List.nodup_cons.2 ⟨fun taken => ?_, law.slots⟩)
    obtain ⟨i, hi, slot⟩ := List.mem_map.1 taken
    exact fresh i hi slot
  · have share := law.share
    rw [jobs.countP_eq, List.countP_cons]
    split
    · next host => exact room host
    · exact share

/-- The law of the pool speaks of the queues alone. -/
theorem PoolLaw.of_queues {s t : State} (law : PoolLaw s) (h : ∀ b, (t.branch b).queue = (s.branch b).queue) :
    PoolLaw t :=
  law.of_identities fun b => by rw [State.identities, h b]; exact .refl _

theorem PoolLaw.acceptJob {s : State} (law : PoolLaw s) {j : Job} (fresh : ∀ i ∈ s.jobs, i.slot ≠ j.slot)
    (room : j.isHost = true → s.hostJobs < 20) : PoolLaw (s.acceptJob j) :=
  (State.selectIfIdle_keepsPool ..).pool (law.placeInQueue fresh room)

/-- A slot for a host job is free, and the host share is not full (R58, R60). -/
theorem State.hostSlot_some {s : State} {n : SlotId} (h : s.hostSlot = some n) :
    (∀ j ∈ s.jobs, j.slot ≠ n) ∧ s.hostJobs < 20 := by
  unfold State.hostSlot at h
  split at h
  · cases h
  · next room => exact ⟨State.freeSlot_some h, Nat.not_le.1 room⟩

/-! ### A CANCEL deferred -/

/-- Jobs changed in their places by something that a reading does not see are read as before. -/
theorem State.map_updateJob_queue {β : Type} {f : Job → Job} {g : Job → β} (h : ∀ i, g (f i) = g i) (s : State) (j : Job)
    (b : BranchId) : ((s.updateJob j f).branch b).queue.map g = (s.branch b).queue.map g := by
  rw [State.branch_updateJob]
  split
  · rw [List.map_map]
    refine List.map_congr_left fun i _ => ?_
    rw [Function.comp]
    split
    · exact h i
    · rfl
  · rfl

theorem State.map_updateJob_jobs {β : Type} {f : Job → Job} {g : Job → β} (h : ∀ i, g (f i) = g i) (s : State) (j : Job) :
    (s.updateJob j f).jobs.map g = s.jobs.map g := by
  simp only [State.jobs_eq, List.map_flatMap, State.map_updateJob_queue h]

/-- A job changed in its place keeps its slot, its branch and its origin. -/
theorem PoolLaw.updateJob {s : State} (law : PoolLaw s) (j : Job) {f : Job → Job} (slot : ∀ i, (f i).slot = i.slot)
    (branch : ∀ i, (f i).branch = i.branch) (host : ∀ i, (f i).isHost = i.isHost) : PoolLaw (s.updateJob j f) := by
  refine ⟨fun b i hi => ?_, ?_, ?_⟩
  · have named : i.branch ∈ (s.branch b).queue.map Job.branch :=
      State.map_updateJob_queue branch s j b ▸ List.mem_map_of_mem hi
    obtain ⟨k, hk, same⟩ := List.mem_map.1 named
    exact same ▸ law.placed b k hk
  · rw [State.map_updateJob_jobs slot]
    exact law.slots
  · have hosts (l : List Job) : l.countP Job.isHost = (l.map Job.isHost).countP id := by
      rw [List.countP_map]
      rfl
    rw [hosts, State.map_updateJob_jobs host, ← hosts]
    exact law.share

theorem PoolLaw.deferCancel {s : State} (law : PoolLaw s) (j : Job) (tag : Byte) : PoolLaw (s.deferCancel j tag) :=
  law.updateJob j (fun _ => rfl) (fun _ => rfl) fun _ => rfl

/-! ### The requests -/

section
variable {s : State} (law : PoolLaw s) (f : Frame)
include law

theorem PoolLaw.answer (payload : List Byte) : PoolLaw (s.answer f payload) := law.of_queues fun _ => rfl

theorem PoolLaw.routeSet (form : RouteId × RouteConfig) : PoolLaw (s.routeSet f form) := by
  unfold State.routeSet
  split <;> exact law.of_queues fun _ => rfl

theorem PoolLaw.routeClear (r : RouteId) : PoolLaw (s.routeClear f r) := by
  unfold State.routeClear
  split <;> exact law.of_queues fun _ => rfl

theorem PoolLaw.holdRelease (r : RouteId) : PoolLaw (s.holdRelease f r) := by
  unfold State.holdRelease
  split <;> exact law.of_queues fun _ => rfl

theorem PoolLaw.presenceReset (r : RouteId) : PoolLaw (s.presenceReset f r) := by
  unfold State.presenceReset
  split
  · exact ((s.resetPresence_keepsPool r).pool law).answer f _
  · exact law.answer f _

theorem PoolLaw.watchSet (form : WatchId × WatchConfig) : PoolLaw (s.watchSet f form) := by
  unfold State.watchSet
  simp only
  split
  · exact law.answer f _
  · split <;> exact law.of_queues fun _ => rfl

theorem PoolLaw.watchClear (w : WatchId) : PoolLaw (s.watchClear f w) := by
  unfold State.watchClear
  simp only
  split
  · exact law.answer f _
  · split <;> exact law.of_queues fun _ => rfl

theorem PoolLaw.branchSet (form : BranchId × BranchConfig) : PoolLaw (s.branchSet f form) := by
  unfold State.branchSet
  simp only
  split
  · exact ((s.setBranch_keepsPool form.1 (by rfl)).pool law).answer f _
  · exact law.answer f _

theorem PoolLaw.branchReset (b : BranchId) : PoolLaw (s.branchReset f b) := by
  have pending : PoolLaw (s.setPendingReset b (some f.tag)) := law.of_queues fun _ => rfl
  unfold State.branchReset
  split
  · exact law.answer f _
  · exact (State.enterRecovery_keepsPool ..).pool pending
  · exact (State.enterRecovery_keepsPool ..).pool pending
  all_goals exact law.answer f _

theorem PoolLaw.acceptOwed {x : XferForm} {c : RouteConfig} {slot : SlotId} (free : s.hostSlot = some slot) (tag : Byte) :
    PoolLaw (s.acceptOwed tag x c slot) := by
  obtain ⟨fresh, room⟩ := State.hostSlot_some free
  have joined : PoolLaw (s.jobJoins x.route) := (s.setRoute_keepsPool ..).pool law
  exact joined.acceptJob fresh fun _ => room

theorem PoolLaw.acceptPosted {x : XferForm} {c : RouteConfig} {slot : SlotId} (free : s.hostSlot = some slot) :
    PoolLaw (s.acceptPosted f x c slot) := by
  obtain ⟨fresh, room⟩ := State.hostSlot_some free
  unfold State.acceptPosted
  have numbered : PoolLaw (s.setRoute x.route
      { s.route x.route with nextPost := nextNumber (s.route x.route).nextPost }) := (s.setRoute_keepsPool ..).pool law
  exact ((State.setRoute_keepsPool ..).pool (numbered.answer f _)).acceptJob fresh fun _ => room

theorem PoolLaw.xfer (x : XferForm) : PoolLaw (s.xfer f x) := by
  unfold State.xfer
  split
  · exact law.answer f _
  · exact law.answer f _
  · exact law.answer f _
  · next free =>
    split
    · exact law.acceptPosted f free
    · exact law.acceptOwed free _

theorem PoolLaw.broadcast (x : BroadcastForm) : PoolLaw (s.broadcast f x) := by
  unfold State.broadcast
  split
  · exact law.answer f _
  · split
    · exact law.answer f _
    · next free =>
      obtain ⟨fresh, room⟩ := State.hostSlot_some free
      exact law.acceptJob fresh fun _ => room

theorem PoolLaw.cancel (atBoundary : Bool) (target : Byte) : PoolLaw (s.cancel atBoundary f target) := by
  have ends (j : Job) : PoolLaw
      (((s.endJob j.withoutProgress .cancelled).answerCancel f target .ok).selectIfIdle j.branch) := by
    have ended := (s.endJob_settles (known := False) j.withoutProgress .cancelled False.elim False.elim).pool law
    exact (State.selectIfIdle_keepsPool ..).pool (ended.answer f _)
  unfold State.cancel
  split
  · exact law.answer f _
  · split
    · exact ends _
    · exact ends _
    · exact (State.makeEnding_keepsPool ..).pool (law.deferCancel ..)
    all_goals exact law.answer f _

end

/-! ### Every command -/

theorem State.take_branches {s t : State} {wanted : Byte → Bool} {f : Frame} (h : s.take wanted = some (f, t)) :
    t.branches = s.branches := by
  unfold State.take at h
  split at h
  · cases h
  · split at h <;> cases h
    rfl

theorem PoolLaw.testClose {s : State} (law : PoolLaw s) : PoolLaw s.testClose := by
  unfold State.testClose
  split
  · exact law.of_queues fun b => by rw [State.completeClose_eq]; rfl
  · exact law

theorem PoolLaw.begunClose {s : State} (law : PoolLaw s) (boundary : List BranchId) :
    PoolLaw (s.beginClose boundary).testClose :=
  ((s.beginClose_settles (known := False) boundary False.elim).pool (law.of_queues fun _ => rfl)).testClose

theorem PoolLaw.restartTaken {s : State} (law : PoolLaw s) (tag : Byte) (boundary : List BranchId) :
    PoolLaw (s.restartTaken tag boundary) := by
  unfold State.restartTaken
  simp only
  split
  · exact PoolLaw.begunClose (s := s.restartPending tag) (law.of_queues fun _ => rfl) boundary
  · exact law.of_queues fun _ => rfl

theorem PoolLaw.makePoll {s : State} (law : PoolLaw s) {slot : SlotId} (free : s.freeSlot = some slot) (w : WatchId)
    (c : WatchConfig) (rc : RouteConfig) : PoolLaw (s.makePoll w c slot rc) := by
  have out : PoolLaw (s.setWatch w { s.watch w with pollOut := true }) := law.of_queues fun _ => rfl
  exact ((State.setRoute_keepsPool ..).pool out).acceptJob (State.freeSlot_some free) fun host => by
    simp [Job.isHost, Job.isPoll, newJob] at host

/-- A poll is planned for a free slot (R154). -/
theorem State.pollPlan_free {s : State} {x : Watch} {c : WatchConfig} {slot : SlotId} {rc : RouteConfig}
    (h : s.pollPlan x c = some (slot, rc)) : s.freeSlot = some slot := by
  unfold State.pollPlan at h
  split at h
  · next free =>
    split at h
    · cases h
    · cases h
      exact free
  · cases h

theorem PoolLaw.countdownExpires {s : State} (law : PoolLaw s) (w : WatchId) (c : WatchConfig) :
    PoolLaw (s.countdownExpires w c) := by
  have restarted : PoolLaw (s.setWatch w { s.watch w with countdown := c.period }) := law.of_queues fun _ => rfl
  unfold State.countdownExpires
  simp only
  split
  · exact (State.countMissed_keepsPool ..).pool restarted
  · next plan => exact restarted.makePoll (State.pollPlan_free plan) w c _

theorem fullReset_poolLaw (cause : ResetCause) (lspd : LinkSpeed) (lines : Vector Lines 4) (s : State) :
    ∃ t, exec (.fullReset cause lspd lines) s = .next t ∧ PoolLaw t := by
  refine ⟨_, exec_fullReset .., ?_⟩
  have queue : ∀ b : BranchId, ((mapTable Branch.reset lines)[b]).queue = [] := fun b =>
    (congrArg Branch.queue (mapTable_getElem Branch.reset lines b.val b.isLt) :)
  obtain ⟨-, -, -, -, -, -, -, -, law, -⟩ := lawsHoldAtReset
  refine law.of_queues fun b => ?_
  rw [reset_branch]
  exact queue b

/-- A request command keeps the law of the pool if its action does. -/
theorem PoolLaw.request {α : Type} {s : State} (law : PoolLaw s) {k : Kind} {form : List Byte → Option α}
    {act : State → Frame → α → State} (acts : ∀ t f a, PoolLaw t → PoolLaw (act t f a)) :
    PoolLaw (s.request k form act) := by
  rcases s.request_cases k form act with h | ⟨f, rest, -, -, -, ⟨st, -, h⟩ | ⟨a, -, h⟩⟩
  · exact h.symm ▸ law
  · exact h.symm ▸ law.of_queues fun _ => rfl
  · have acted := acts (s.taken f rest) f a (law.of_queues fun _ => rfl)
    exact h.symm ▸ acted.of_queues fun _ => rfl

/-- The answer is a next state that keeps the law of the pool. -/
def AnswerPoolLaw (a : Answer) : Prop := ∃ t, a = .next t ∧ PoolLaw t

theorem PoolLaw.next {s : State} (law : PoolLaw s) : AnswerPoolLaw (.next s) := ⟨s, rfl, law⟩

theorem PoolLaw.exec {s : State} (law : PoolLaw s) (c : Instr) : AnswerPoolLaw (exec c s) := by
  by_cases branches : ofTheBranches c = true
  · obtain ⟨t, ht, settles⟩ := exec_settles (known := False) (s := s) branches False.elim
    exact ⟨t, ht, settles.pool law⟩
  have behind {t : State} (same : t.behindReceiver = s.behindReceiver) : PoolLaw t :=
    law.of_queues fun b => (congrArg (fun u : State => (u.branch b).queue) same :)
  cases c with
  | fullReset cause lspd lines => exact fullReset_poolLaw cause lspd lines s
  | byteArrives c =>
    rw [exec_byteArrives]
    exact (behind (s.receive_behind _)).next
  | gapIntervalExpires =>
    rw [exec_gapIntervalExpires, execGapIntervalExpires]
    split
    · exact law.next
    · refine PoolLaw.next ?_
      split
      · exact behind rfl
      · exact law
  | transmitStart =>
    rw [exec_transmitStart, execTransmitStart]
    split
    · next idle =>
      obtain ⟨-, -, ⟨tables, -⟩, -⟩ := State.choose_transmits idle
      exact (law.of_queues fun b => by rw [State.branch, tables]; rfl).next
    · exact law.next
  | frameTransmitted =>
    rw [exec_frameTransmitted, execFrameTransmitted]
    split
    · exact law.next
    · exact ⟨_, rfl, law.of_queues fun _ => rfl⟩
  | restartEffects =>
    rw [exec_restartEffects, execRestartEffects]
    split
    · exact (s.applyRestart_keepsPool.pool (law.of_queues s.restarted_queue)).next
    · exact law.next
  | requestOfUnknownKind =>
    show AnswerPoolLaw (execRequestOfUnknownKind s)
    unfold execRequestOfUnknownKind
    split
    · exact law.next
    · next f t taken =>
      exact ⟨_, rfl, law.of_queues fun b =>
        (congrArg (fun v : Vector Branch 4 => v[b].queue) (State.take_branches taken) :)⟩
  | hello => exact (law.request fun t f _ pool => pool.answer f _).next
  | openSession => exact ⟨_, rfl, law.request fun t f _ pool => pool.of_queues fun _ => rfl⟩
  | closeSession boundary =>
    exact (law.request fun t f _ pool =>
      PoolLaw.begunClose (s := t.closePending f.tag) (pool.of_queues fun _ => rfl) boundary).next
  | closeProcedureCompletes =>
    rw [exec_closeProcedureCompletes, execCloseProcedureCompletes]
    refine PoolLaw.next ?_
    split
    · exact law.testClose
    · exact law
  | restart boundary => exact (law.request fun t f _ pool => pool.restartTaken f.tag boundary).next
  | status => exact ⟨_, rfl, law.request fun t f _ pool => pool.of_queues fun _ => rfl⟩
  | credit => exact ⟨_, rfl, law.request fun t f _ pool => pool.of_queues fun _ => rfl⟩
  | routeSet => exact (law.request fun t f form pool => pool.routeSet f form).next
  | routeGet => exact (law.request fun t f _ pool => pool.answer f _).next
  | routeClear => exact (law.request fun t f r pool => pool.routeClear f r).next
  | holdRelease => exact (law.request fun t f r pool => pool.holdRelease f r).next
  | presenceReset => exact (law.request fun t f r pool => pool.presenceReset f r).next
  | branchSet => exact (law.request fun t f form pool => pool.branchSet f form).next
  | branchGet => exact (law.request fun t f _ pool => pool.answer f _).next
  | branchReset => exact (law.request fun t f b pool => pool.branchReset f b).next
  | xfer => exact (law.request fun t f x pool => pool.xfer f x).next
  | broadcast => exact (law.request fun t f x pool => pool.broadcast f x).next
  | cancel atBoundary => exact (law.request fun t f target pool => pool.cancel f atBoundary target).next
  | watchSet => exact (law.request fun t f form pool => pool.watchSet f form).next
  | watchGet => exact (law.request fun t f _ pool => pool.answer f _).next
  | watchClear => exact (law.request fun t f w pool => pool.watchClear f w).next
  | watchCountdownExpires w =>
    rw [exec_watchCountdownExpires, execWatchCountdownExpires]
    split
    · exact law.next
    · refine PoolLaw.next ?_
      split
      · exact law.countdownExpires w _
      · exact law
  | _ => exact absurd rfl branches

/-- Settles O58: every command keeps the law of the pool, and the passing of a ms moves no job. -/
theorem everyStepKeepsThePoolLaw : Obligations.EveryStepKeepsThePoolLaw := by
  intro s t law h
  unfold step at h
  split at h
  next =>
    cases h
    exact law.of_queues fun _ => rfl
  next c rest _ =>
    obtain ⟨u, hu, pool⟩ := PoolLaw.exec (s := { s with pending := rest }) (law.of_queues fun _ => rfl) c
    cases hu.symm.trans h
    exact pool

end Sys2Proof.Machine
end

section
/-! SUPPORT. The jobs on the wires and the engines that conduct them: what jobs that wait may do without touching either
(R64, R85). -/

namespace Sys2Proof.Machine

/-! ### The law of one branch -/

/-- The slot of the job that the engine conducts. -/
def Engine.conducted : Engine → Option SlotId
  | .active c => some c.slot
  | _ => none

theorem Engine.conducted_eq_some {e : Engine} {n : SlotId} :
    e.conducted = some n ↔ ∃ c, e = .active c ∧ c.slot = n := by
  cases e <;> simp [Engine.conducted]

/-- The law of the engines, for one branch. -/
structure Branch.WiresLaw (br : Branch) : Prop where
  conducted : ∀ j ∈ br.queue, (j.onWires = true ↔ br.engine.conducted = some j.slot)
  conducts : ∀ n, br.engine.conducted = some n → ∃ j ∈ br.queue, j.slot = n

theorem engineLaw_iff {s : State} : EngineLaw s ↔ ∀ b, (s.branch b).WiresLaw := by
  refine ⟨fun law b => ⟨fun j hj => ?_, fun n hn => ?_⟩, fun law => ⟨fun b j hj => ?_, fun b c hc => ?_⟩⟩
  · rw [Engine.conducted_eq_some]
    exact law.conducted b j hj
  · obtain ⟨c, engine, rfl⟩ := Engine.conducted_eq_some.1 hn
    exact law.conducts b c engine
  · rw [(law b).conducted j hj, Engine.conducted_eq_some]
  · exact (law b).conducts c.slot (Engine.conducted_eq_some.2 ⟨c, hc, rfl⟩)

/-- With no job conducted, no job of the queue is on the wires. -/
theorem Branch.WiresLaw.waits {br : Branch} (law : br.WiresLaw) (engine : br.engine.conducted = none) {j : Job}
    (hj : j ∈ br.queue) : j.onWires = false := by
  by_contra wires
  have conducted := (law.conducted j hj).1 (by simpa using wires)
  rw [engine] at conducted
  cases conducted

/-! ### What leaves the wires alone -/

/-- Jobs that wait may have left the queue, and every record may have changed; but the engine conducts the same job, no job
has come to or gone from the wires, and no job is new. -/
structure Branch.KeepsWires (br br' : Branch) : Prop where
  engine : br'.engine.conducted = br.engine.conducted
  old : ∀ j ∈ br'.queue, ∃ i ∈ br.queue, i.slot = j.slot ∧ i.onWires = j.onWires
  stays : ∀ i ∈ br.queue, i.onWires = true → ∃ j ∈ br'.queue, j.slot = i.slot ∧ j.onWires = true

theorem Branch.KeepsWires.of_queue {br br' : Branch} (engine : br'.engine.conducted = br.engine.conducted)
    (queue : br'.queue = br.queue) : br.KeepsWires br' :=
  ⟨engine, fun j hj => ⟨j, queue ▸ hj, rfl, rfl⟩, fun i hi wires => ⟨i, queue ▸ hi, rfl, wires⟩⟩

theorem Branch.KeepsWires.refl (br : Branch) : br.KeepsWires br := .of_queue rfl rfl

theorem Branch.KeepsWires.trans {x y z : Branch} (h : x.KeepsWires y) (k : y.KeepsWires z) : x.KeepsWires z := by
  refine ⟨k.engine.trans h.engine, fun j hj => ?_, fun i hi wires => ?_⟩
  · obtain ⟨i, hi, slot, same⟩ := k.old j hj
    obtain ⟨i', hi', slot', same'⟩ := h.old i hi
    exact ⟨i', hi', slot'.trans slot, same'.trans same⟩
  · obtain ⟨j, hj, slot, wires⟩ := h.stays i hi wires
    obtain ⟨j', hj', slot', wires'⟩ := k.stays j hj wires
    exact ⟨j', hj', slot'.trans slot, wires'⟩

theorem Branch.WiresLaw.keeps {br br' : Branch} (law : br.WiresLaw) (h : br.KeepsWires br') : br'.WiresLaw := by
  refine ⟨fun j hj => ?_, fun n hn => ?_⟩
  · obtain ⟨i, hi, slot, same⟩ := h.old j hj
    rw [h.engine, ← same, ← slot]
    exact law.conducted i hi
  · rw [h.engine] at hn
    obtain ⟨i, hi, rfl⟩ := law.conducts n hn
    obtain ⟨j, hj, slot, -⟩ := h.stays i hi ((law.conducted i hi).2 hn)
    exact ⟨j, hj, slot⟩

/-- So in every branch. -/
structure KeepsWires (s t : State) : Prop where
  branch : ∀ b, (s.branch b).KeepsWires (t.branch b)

theorem KeepsWires.refl (s : State) : KeepsWires s s := ⟨fun _ => .refl _⟩

theorem KeepsWires.trans {s t u : State} (h : KeepsWires s t) (k : KeepsWires t u) : KeepsWires s u :=
  ⟨fun b => (h.branch b).trans (k.branch b)⟩

theorem KeepsWires.of_branches {s t : State} (h : t.branches = s.branches) : KeepsWires s t := by
  refine ⟨fun b => ?_⟩
  rw [State.branch, State.branch, h]
  exact .refl _

theorem EngineLaw.keeps {s t : State} (law : EngineLaw s) (h : KeepsWires s t) : EngineLaw t :=
  engineLaw_iff.2 fun b => (engineLaw_iff.1 law b).keeps (h.branch b)

theorem State.setBranch_keepsWires {s : State} {b : BranchId} {v : Branch} (h : (s.branch b).KeepsWires v) :
    KeepsWires s (s.setBranch b v) := by
  refine ⟨fun k => ?_⟩
  rw [State.branch_setBranch]
  split
  · next e => exact e ▸ h
  · exact .refl _

/-! ### The job that stands in a slot -/

/-- Whatever stands in the job's queue in the job's slot is on the wires, or is not, as `wires` says. -/
def State.SlotWires (s : State) (wires : Bool) (j : Job) : Prop :=
  ∀ i ∈ (s.branch j.branch).queue, i.slot = j.slot → i.onWires = wires

theorem KeepsWires.slotWires {s t : State} (h : KeepsWires s t) {wires : Bool} {j : Job} (k : s.SlotWires wires j) :
    t.SlotWires wires j := by
  intro i hi slot
  obtain ⟨i', hi', slot', same⟩ := (h.branch j.branch).old i hi
  rw [← same]
  exact k i' hi' (slot'.trans slot)

/-- A job of the pool is the one that stands in its slot. -/
theorem PoolLaw.slotWires {s : State} (law : PoolLaw s) {j : Job} (hj : j ∈ s.jobs) : s.SlotWires j.onWires j := by
  intro i hi slot
  rw [slots_inj (law.queue_slots _) hi (law.mem_queue hj) slot]

/-- A fold of an operation that leaves the wires alone where the job it is given waits, or where it is on the wires. -/
theorem KeepsWires.foldl {f : State → Job → State} {wires : Bool} (pool : ∀ s j, PoolLaw s → PoolLaw (f s j))
    (one : ∀ s j, PoolLaw s → s.SlotWires wires j → KeepsWires s (f s j)) : ∀ (l : List Job) (s : State), PoolLaw s →
      (∀ j ∈ l, s.SlotWires wires j) → KeepsWires s (l.foldl f s)
  | [], s, _, _ => .refl s
  | j :: l, s, law, h => by
    have head := one s j law (h j List.mem_cons_self)
    exact head.trans (KeepsWires.foldl pool one l (f s j) (pool s j law) fun i hi =>
      head.slotWires (h i (List.mem_cons_of_mem _ hi)))

/-- A job that waits leaves the pool. -/
theorem State.Loses.keepsWires {s t : State} {j : Job} (h : s.Loses j t) (waits : s.SlotWires false j) :
    KeepsWires s t := by
  refine ⟨fun k => ?_⟩
  rw [h k]
  split
  · next e =>
    subst e
    refine ⟨rfl, fun i hi => ⟨i, List.mem_of_mem_filter hi, rfl, rfl⟩, fun i hi wires => ⟨i, ?_, rfl, wires⟩⟩
    refine List.mem_filter.2 ⟨hi, decide_eq_true fun slot => ?_⟩
    rw [waits i hi slot] at wires
    cases wires
  · exact .refl _

/-- A job's record changed in its place, by something that neither puts it on the wires nor takes it from there. -/
theorem State.updateJob_keepsWires {s : State} {j : Job} {f : Job → Job} (slot : ∀ i, (f i).slot = i.slot)
    (wires : ∀ i ∈ (s.branch j.branch).queue, i.slot = j.slot → (f i).onWires = i.onWires) :
    KeepsWires s (s.updateJob j f) := by
  have same (i : Job) (hi : i ∈ (s.branch j.branch).queue) :
      (if i.slot = j.slot then f i else i).slot = i.slot ∧ (if i.slot = j.slot then f i else i).onWires = i.onWires := by
    split
    · next e => exact ⟨slot i, wires i hi e⟩
    · exact ⟨rfl, rfl⟩
  refine State.setBranch_keepsWires ⟨rfl, fun k hk => ?_, fun i hi on => ?_⟩
  · obtain ⟨i, hi, rfl⟩ := List.mem_map.1 hk
    obtain ⟨slot, wires⟩ := same i hi
    exact ⟨i, hi, slot.symm, wires.symm⟩
  · obtain ⟨slot, wires⟩ := same i hi
    exact ⟨_, List.mem_map_of_mem hi, slot, wires.trans on⟩

end Sys2Proof.Machine
end

section
/-! SUPPORT. The ends of jobs that wait, and the late failures, leave the wires alone (R73, R114, R115, R124, R127). -/

namespace Sys2Proof.Machine

section
variable (s : State)

theorem State.setRoute_keepsWires (r : RouteId) (v : Route) : KeepsWires s (s.setRoute r v) := .of_branches rfl

theorem State.offer_keepsWires (x : NoticeBody) : KeepsWires s (s.offer x) := .of_branches (s.offer_branches x)

theorem State.countDiscards_keepsWires (n : Nat) : KeepsWires s (s.countDiscards n) := .of_branches rfl

theorem State.countCloseEnd_keepsWires (j : Job) (st : Status) : KeepsWires s (s.countCloseEnd j st) := by
  rw [State.countCloseEnd_eq]
  exact .of_branches rfl

theorem State.comparePoll_branches (w : WatchId) (c : WatchConfig) (value : List Byte) :
    (s.comparePoll w c value).branches = s.branches := by
  unfold State.comparePoll
  simp only
  split
  · split <;> simp
  · split <;> simp

theorem State.watchTakes_keepsWires (j : Job) (st : Status) : KeepsWires s (s.watchTakes j st) := by
  refine .of_branches ?_
  unfold State.watchTakes State.pollEnds
  simp only
  split
  · rfl
  · split
    · rfl
    · split
      · exact State.comparePoll_branches ..
      · rfl

/-! ### Late failures -/

theorem State.purgeJob_keepsWires {j : Job} (waits : s.SlotWires false j) : KeepsWires s (s.purgeJob j) :=
  (s.purgeJob_loses j).keepsWires waits

variable {s} (law : PoolLaw s)
include law

/-- A route with no job on the wires has only jobs that wait. -/
theorem PoolLaw.waits_of_free {r : RouteId} (free : s.routeOnWires r = false) {j : Job} (hj : j ∈ s.jobs)
    (route : j.route = some r) : s.SlotWires false j := by
  have waits : j.onWires = false := by
    have none := List.any_eq_false.1 free j hj
    simpa [route] using none
  exact waits ▸ law.slotWires hj

/-- A late failure is carried out only with its route's jobs all waiting. -/
theorem PoolLaw.carryOut_keepsWires {r : RouteId} (free : s.routeOnWires r = false) (f : FailedPost) (d : Discards) :
    KeepsWires s (s.carryOut r f d) := by
  have purges (v : Route) : KeepsWires (s.setRoute r v) ((s.setRoute r v).purge r d).1 := by
    rw [State.purge_fst]
    refine .foldl (wires := false) (fun t j pool => ?_) (fun t j _ waits => t.purgeJob_keepsWires waits) _ _
      (law.of_queues fun _ => rfl) fun j hj => ?_
    · exact (t.purgeJob_settles (known := False) j False.elim).pool pool
    · obtain ⟨member, route⟩ := List.mem_filter.1 hj
      exact law.waits_of_free free member (of_decide_eq_true route)
  exact (((s.setRoute_keepsWires r _).trans (purges _)).trans (State.setRoute_keepsWires ..)).trans
    (State.offer_keepsWires ..)

theorem PoolLaw.lateFailure_keepsWires (r : RouteId) (f : FailedPost) : KeepsWires s (s.lateFailure r f) := by
  unfold State.lateFailure
  simp only
  split
  · exact s.setRoute_keepsWires ..
  · next free => exact law.carryOut_keepsWires (by simpa using free) ..

theorem PoolLaw.settleWaiting_keepsWires (r : RouteId) : KeepsWires s (s.settleWaiting r) := by
  unfold State.settleWaiting
  split
  · exact .refl s
  · split
    · exact .refl s
    · next free =>
      split
      · exact law.carryOut_keepsWires (by simpa using free) ..
      · exact (s.setRoute_keepsWires ..).trans (State.countDiscards_keepsWires ..)

theorem PoolLaw.settleRouteOf_keepsWires (j : Job) : KeepsWires s (s.settleRouteOf j) := by
  unfold State.settleRouteOf
  split
  · exact .refl s
  · exact law.settleWaiting_keepsWires _

theorem PoolLaw.postedEnds_keepsWires (j : Job) (st : Status) : KeepsWires s (s.postedEnds j st) := by
  unfold State.postedEnds
  split
  · split
    · exact .refl s
    · split
      · exact law.lateFailure_keepsWires ..
      · exact s.countDiscards_keepsWires 1
  · exact .refl s

/-! ### Jobs that wait -/

theorem PoolLaw.countCloseEnd (j : Job) (st : Status) : PoolLaw (s.countCloseEnd j st) :=
  (s.countCloseEnd_keepsPool j st).pool law

theorem PoolLaw.deliver (j : Job) (st : Status) : PoolLaw (s.deliver j st) :=
  (s.deliver_settles (known := False) j st False.elim).pool law

theorem PoolLaw.endJob (j : Job) (st : Status) : PoolLaw (s.endJob j st) :=
  (s.endJob_settles (known := False) j st False.elim False.elim).pool law

theorem PoolLaw.endOnWires (j : Job) (st : Status) : PoolLaw (s.endOnWires j st) :=
  (s.endOnWires_settles (known := False) j st False.elim False.elim).pool law

/-- The end of a job that waits. -/
theorem PoolLaw.endJob_keepsWires {j : Job} (waits : s.SlotWires false j) (st : Status) :
    KeepsWires s (s.endJob j st) := by
  have counted := s.countCloseEnd_keepsWires j st
  have left := (State.deliver_loses (s.countCloseEnd j st) j st).keepsWires (counted.slotWires waits)
  exact ((counted.trans left).trans (((law.countCloseEnd j st).deliver j st).postedEnds_keepsWires j st)).trans
    (State.watchTakes_keepsWires ..)

theorem PoolLaw.drainFirst_keepsWires {j : Job} (waits : s.SlotWires false j) : KeepsWires s (drainFirst s j) := by
  unfold drainFirst
  split
  · exact .refl s
  · exact law.endJob_keepsWires (j := j.withoutProgress) waits _
  · exact (s.removeJob_loses j).keepsWires waits

theorem PoolLaw.drainSecond_keepsWires {j : Job} (waits : s.SlotWires false j) (b : BranchId) :
    KeepsWires s (drainSecond b s j) := by
  unfold drainSecond
  split
  · exact law.endJob_keepsWires (j := j.withoutProgress) waits _
  · exact .refl s

theorem PoolLaw.drainFirst (j : Job) : PoolLaw (drainFirst s j) :=
  (drainFirst_settles (known := False) s j False.elim).pool law

theorem PoolLaw.drainSecond (b : BranchId) (j : Job) : PoolLaw (drainSecond b s j) := by
  unfold Machine.drainSecond
  split
  · exact law.endJob ..
  · exact law

/-- The drain of a branch whose engine conducts nothing. -/
theorem PoolLaw.drain_keepsWires {b : BranchId} (waits : ∀ j ∈ (s.branch b).queue, j.onWires = false) :
    KeepsWires s (s.drain b) := by
  have free {t : State} (pool : PoolLaw t) (waits : ∀ j ∈ (t.branch b).queue, j.onWires = false) :
      ∀ j ∈ (t.branch b).queue, t.SlotWires false j := fun j hj i hi _ => waits i (pool.placed b j hj ▸ hi)
  have first : KeepsWires s ((s.branch b).queue.foldl Machine.drainFirst s) :=
    .foldl (fun t j pool => pool.drainFirst j) (fun t j pool => pool.drainFirst_keepsWires) _ s law (free law waits)
  have pool : PoolLaw ((s.branch b).queue.foldl Machine.drainFirst s) :=
    (Settles.foldl (known := False) (fun t j _ => drainFirst_settles t j False.elim)
      (fun t i j other held => drainFirst_holds t i j other held) _ s False.elim).pool law
  refine first.trans (.foldl (fun t j pool => pool.drainSecond b j)
    (fun t j pool waits => pool.drainSecond_keepsWires waits b) _ _ pool (free pool fun j hj => ?_))
  obtain ⟨i, hi, -, same⟩ := (first.branch b).old j hj
  rw [← same]
  exact waits i hi

end

end Sys2Proof.Machine
end

section
/-! SUPPORT. Selections, and the job an engine conducts as it leaves the wires (R64, R66, R85, R100). -/

namespace Sys2Proof.Machine

/-! ### Engines -/

theorem Engine.onEnding_conducted (e : Engine) (n : SlotId) (cause : EndCause) (atBoundary : Bool) :
    (e.onEnding n cause atBoundary).conducted = e.conducted := by
  cases e with
  | active c =>
    rw [Engine.onEnding_active]
    split <;> rfl
  | _ => rfl

/-- With nothing conducted, an engine may go where it conducts nothing. -/
theorem State.setBranch_idle {s : State} {b : BranchId} {v : Branch} (before : (s.branch b).engine.conducted = none)
    (after : v.engine.conducted = none) (queue : v.queue = (s.branch b).queue) : KeepsWires s (s.setBranch b v) :=
  State.setBranch_keepsWires (.of_queue (after.trans before.symm) queue)

theorem State.enterRecovery_keepsWires {s : State} {b : BranchId} (before : (s.branch b).engine.conducted = none)
    (cause : RecoveryCause) : KeepsWires s (s.enterRecovery b cause) := by
  obtain ⟨v, e, queue, x, engine, -⟩ := s.enterRecovery_only b cause
  rw [e]
  exact State.setBranch_idle before (by rw [engine]; rfl) queue

/-- A job that becomes ENDING stays on the wires. -/
theorem State.makeEnding_keepsWires {s : State} {j : Job} (wires : s.SlotWires true j) (cause : EndCause)
    (atBoundary : Bool) : KeepsWires s (s.makeEnding j cause atBoundary) := by
  have ends : KeepsWires s (s.updateJob j fun i => { i with state := .ending cause }) :=
    State.updateJob_keepsWires (fun _ => rfl) fun i hi slot => (wires i hi slot).symm
  exact ends.trans (State.setBranch_keepsWires (.of_queue (Engine.onEnding_conducted ..) rfl))

/-! ### Selections -/

/-- An IDLE engine that takes a job conducts it. -/
theorem Branch.WiresLaw.starting {br : Branch} (law : br.WiresLaw) (idle : br.engine = .idle) {j : Job}
    (hj : j ∈ br.queue) : (br.starting j).WiresLaw := by
  have waits (i : Job) (hi : i ∈ br.queue) : i.onWires = false := law.waits (by rw [idle]; rfl) hi
  refine ⟨fun k hk => ?_, fun n hn => ?_⟩
  · obtain ⟨i, hi, rfl⟩ := List.mem_map.1 hk
    show _ ↔ some j.slot = some _
    by_cases slot : i.slot = j.slot
    · rw [if_pos slot]
      exact ⟨fun _ => congrArg some slot.symm, fun _ => rfl⟩
    · rw [if_neg slot, waits i hi]
      exact ⟨fun h => (Bool.false_ne_true h).elim, fun h => absurd (Option.some.inj h).symm slot⟩
  · cases hn
    exact ⟨_, List.mem_map_of_mem hj, by rw [if_pos rfl]⟩

theorem EngineLaw.selectIfIdle {s : State} (law : EngineLaw s) (pool : PoolLaw s) (b : BranchId) :
    EngineLaw (s.selectIfIdle b) := by
  by_cases idle : (s.branch b).engine = .idle
  · cases found : firstEligible [] (s.branch b).queue with
    | none => rwa [State.selectIfIdle_none found]
    | some j =>
      obtain ⟨member, -⟩ := firstEligible_some found
      have nothing : (s.branch b).engine.conducted = none := by rw [idle]; rfl
      rw [State.selectIfIdle_some idle found, s.startJob_eq (pool.placed b j member)]
      split
      · refine engineLaw_iff.2 fun k => ?_
        rw [State.branch_setBranch]
        split
        · exact (engineLaw_iff.1 law b).starting idle member
        · exact engineLaw_iff.1 law k
      · refine law.keeps (State.setBranch_idle nothing ?_ ?_) <;> split <;> rfl
  · rwa [State.selectIfIdle_busy idle]

/-! ### The job conducted leaves the wires -/

/-- No job of the branch is on the wires any more, and the other branches keep theirs. -/
structure Frees (b : BranchId) (s t : State) : Prop where
  others : ∀ k, k ≠ b → (s.branch k).KeepsWires (t.branch k)
  waits : ∀ j ∈ (t.branch b).queue, j.onWires = false

theorem KeepsWires.frees {b : BranchId} {s t u : State} (h : KeepsWires s t) (k : Frees b t u) : Frees b s u :=
  ⟨fun i away => (h.branch i).trans (k.others i away), k.waits⟩

theorem Frees.keeps {b : BranchId} {s t u : State} (h : Frees b s t) (k : KeepsWires t u) : Frees b s u := by
  refine ⟨fun i away => (h.others i away).trans (k.branch i), fun j hj => ?_⟩
  obtain ⟨i, hi, -, same⟩ := (k.branch b).old j hj
  rw [← same]
  exact h.waits i hi

/-- The engine that conducted the job then goes where it conducts nothing. -/
theorem Frees.engineLaw {b : BranchId} {s t : State} (h : Frees b s t) (law : EngineLaw s) {v : Branch}
    (engine : v.engine.conducted = none) (queue : v.queue = (t.branch b).queue) : EngineLaw (t.setBranch b v) := by
  refine engineLaw_iff.2 fun k => ?_
  rw [State.branch_setBranch]
  split
  · refine ⟨fun j hj => ?_, fun n hn => ?_⟩
    · rw [h.waits j (queue ▸ hj), engine]
      simp
    · rw [engine] at hn
      cases hn
  · next away => exact (engineLaw_iff.1 law k).keeps (h.others k (Ne.symm away))

theorem Frees.enterWaitFree {b : BranchId} {s t : State} (h : Frees b s t) (law : EngineLaw s) :
    EngineLaw (t.enterWaitFree b) := h.engineLaw law rfl rfl

theorem Frees.enterRecovery {b : BranchId} {s t : State} (h : Frees b s t) (law : EngineLaw s) (cause : RecoveryCause) :
    EngineLaw (t.enterRecovery b cause) := by
  obtain ⟨v, e, queue, x, engine, -⟩ := t.enterRecovery_only b cause
  rw [e]
  exact h.engineLaw law (by rw [engine]; rfl) queue

theorem Frees.becomeIdle {b : BranchId} {s t : State} (h : Frees b s t) (law : EngineLaw s) (pool : PoolLaw t) :
    EngineLaw (t.becomeIdle b) := by
  have idle : EngineLaw (t.setEngine b .idle) := h.engineLaw law rfl rfl
  exact idle.selectIfIdle ((t.setEngine_keepsPool b .idle).pool pool) b

/-- The only job of the branch that may be on the wires is the one in the slot of `j`. -/
structure OnlyOnWires (s : State) (b : BranchId) (j : Job) : Prop where
  branch : j.branch = b
  only : ∀ i ∈ (s.branch b).queue, i.onWires = true → i.slot = j.slot

theorem OnlyOnWires.keeps {s t : State} {b : BranchId} {j : Job} (h : OnlyOnWires s b j) (k : KeepsWires s t) :
    OnlyOnWires t b j := by
  refine ⟨h.branch, fun i hi wires => ?_⟩
  obtain ⟨i', hi', slot, same⟩ := (k.branch b).old i hi
  exact slot.symm.trans (h.only i' hi' (same.trans wires))

theorem OnlyOnWires.congr {s : State} {b : BranchId} {i j : Job} (h : OnlyOnWires s b j) (e : i.identity = j.identity) :
    OnlyOnWires s b i := by
  have slot : i.slot = j.slot := (congrArg Job.slot e :)
  have branch : i.branch = j.branch := (congrArg Job.branch e :)
  exact ⟨branch.trans h.branch, fun k hk wires => (h.only k hk wires).trans slot.symm⟩

theorem OnlyOnWires.loses {s t : State} {b : BranchId} {j : Job} (h : OnlyOnWires s b j) (loses : s.Loses j t) :
    Frees b s t := by
  refine ⟨fun k away => ?_, fun i hi => ?_⟩
  · rw [loses k, h.branch, if_neg (Ne.symm away)]
    exact .refl _
  · rw [loses.queue, if_pos h.branch] at hi
    obtain ⟨member, other⟩ := List.mem_filter.1 hi
    by_contra wires
    exact of_decide_eq_true other (h.only i member (by simpa using wires))

/-- The job's record changed in its place to one that waits. -/
theorem OnlyOnWires.updateJob {s : State} {b : BranchId} {j : Job} (h : OnlyOnWires s b j) {f : Job → Job}
    (waits : ∀ i, (f i).onWires = false) : Frees b s (s.updateJob j f) := by
  refine ⟨fun k away => ?_, fun i hi => ?_⟩
  · rw [State.branch_updateJob, h.branch, if_neg (Ne.symm away)]
    exact .refl _
  · rw [State.branch_updateJob, if_pos h.branch] at hi
    obtain ⟨i', hi', rfl⟩ := List.mem_map.1 hi
    split
    · exact waits i'
    · next other =>
      by_contra wires
      exact other (h.only i' hi' (by simpa using wires))

/-- The end of the job on the wires (R73). -/
theorem OnlyOnWires.endOnWires {s : State} {b : BranchId} {j : Job} (h : OnlyOnWires s b j) (law : PoolLaw s)
    (st : Status) : Frees b s (s.endOnWires j st) := by
  have counted := s.countCloseEnd_keepsWires j st
  have delivered := counted.frees ((h.keeps counted).loses (State.deliver_loses _ j st))
  have pool := (law.countCloseEnd j st).deliver j st
  have ended : PoolLaw (s.endDelivered j st) :=
    (s.endDelivered_settles (known := False) j st False.elim False.elim).pool law
  exact ((delivered.keeps (pool.postedEnds_keepsWires j st)).keeps (ended.settleRouteOf_keepsWires j)).keeps
    (State.watchTakes_keepsWires ..)

/-- The job an engine conducts is the only one of its branch on the wires. -/
theorem EngineLaw.only {s : State} (law : EngineLaw s) {b : BranchId} {c : Conduct} {j : Job}
    (h : Conducts s b c j) : OnlyOnWires s b j := by
  refine ⟨h.branch, fun i hi wires => ?_⟩
  have conducted := ((engineLaw_iff.1 law b).conducted i hi).1 wires
  rw [h.engine] at conducted
  exact (Option.some.inj conducted).symm.trans h.slot.symm

theorem PoolLaw.conducts {s : State} (law : PoolLaw s) {b : BranchId} {c : Conduct} {j : Job}
    (h : s.conducting b = some (c, j)) : Conducts s b c j := by
  unfold State.conducting at h
  split at h
  · next engine =>
    split at h
    · cases h
    · next found =>
      cases h
      exact ⟨law, engine, List.mem_of_find?_eq_some found, by simpa using List.find?_some found⟩
  all_goals cases h

end Sys2Proof.Machine
end

section
/-! SUPPORT. The law of the engines under the events on the branches and of the timers. -/

namespace Sys2Proof.Machine

/-- The answer is a next state that keeps the law of the engines. -/
def AnswerEngineLaw (a : Answer) : Prop := ∃ t, a = .next t ∧ EngineLaw t

theorem EngineLaw.next {s : State} (law : EngineLaw s) : AnswerEngineLaw (.next s) := ⟨s, rfl, law⟩

theorem EngineLaw.ite {s t : State} {p : Prop} [Decidable p] (law : EngineLaw s) (h : p → EngineLaw t) :
    AnswerEngineLaw (.next (if p then t else s)) := by
  split
  · next holds => exact (h holds).next
  · exact law.next

section
variable {s : State} (b : BranchId) (pool : PoolLaw s) (law : EngineLaw s)
include pool law

/-! ### The phases of a transfer -/

omit pool in
/-- The engine goes on to a phase of the job it conducts. -/
theorem EngineLaw.enterPhase {c : Conduct} {j : Job} (h : Conducts s b c j) {t : State} (keeps : KeepsWires s t)
    (p : Phase) : EngineLaw (t.enterPhase b c p) := by
  have engine : (t.branch b).engine.conducted = some c.slot := by
    rw [(keeps.branch b).engine, h.engine]
    rfl
  exact law.keeps (keeps.trans (State.setBranch_keepsWires (.of_queue engine.symm rfl)))

theorem execStartPhaseDone_engineLaw : AnswerEngineLaw (execStartPhaseDone b s) := by
  unfold execStartPhaseDone
  split
  · exact law.next
  · next found =>
    split
    · exact (law.enterPhase b (pool.conducts found) (.refl s) _).next
    all_goals exact law.next

theorem execRestartPhaseDone_engineLaw : AnswerEngineLaw (execRestartPhaseDone b s) := by
  unfold execRestartPhaseDone
  split
  · exact law.next
  · next found =>
    split
    · exact (law.enterPhase b (pool.conducts found) (.refl s) _).next
    all_goals exact law.next

theorem execAddressPhaseDone_engineLaw (acknowledged : Bool) :
    AnswerEngineLaw (execAddressPhaseDone b acknowledged s) := by
  unfold execAddressPhaseDone
  split
  · exact law.next
  · next c j found =>
    have conducts := pool.conducts found
    have acked : KeepsWires s (s.ackAddress j) := State.updateJob_keepsWires (fun _ => rfl) fun _ _ _ => rfl
    split
    · split
      · exact (law.enterPhase b conducts acked _).next
      · exact (law.enterPhase b conducts (.refl s) _).next
    · split <;> exact (law.enterPhase b conducts (.refl s) _).next
    all_goals exact law.next

theorem execWritingByteDone_engineLaw (acknowledged : Bool) :
    AnswerEngineLaw (execWritingByteDone b acknowledged s) := by
  unfold execWritingByteDone
  split
  · exact law.next
  · next c j found =>
    have conducts := pool.conducts found
    split
    · split
      · exact (law.enterPhase b conducts (State.updateJob_keepsWires (fun _ => by rfl) fun _ _ _ => by rfl) _).next
      · exact (law.enterPhase b conducts (.refl s) _).next
    all_goals exact law.next

theorem execReadingByteDone_engineLaw (received : Byte) : AnswerEngineLaw (execReadingByteDone b received s) := by
  unfold execReadingByteDone
  split
  · exact law.next
  · next c j found =>
    have read : KeepsWires s (s.appendRead j received) := State.updateJob_keepsWires (fun _ => rfl) fun _ _ _ => rfl
    split
    · exact (law.enterPhase b (pool.conducts found) read _).next
    all_goals exact law.next

/-! ### The ends of a transfer -/

omit pool law in
/-- The lines and the counters of a branch do not matter. -/
theorem State.setBranch_wires {v : Branch} (engine : v.engine = (s.branch b).engine)
    (queue : v.queue = (s.branch b).queue) : KeepsWires s (s.setBranch b v) :=
  State.setBranch_keepsWires (.of_queue (by rw [engine]) queue)

theorem execStoppingDone_engineLaw : AnswerEngineLaw (execStoppingDone b s) := by
  unfold execStoppingDone
  split
  · exact law.next
  · next c j found =>
    have stopped : KeepsWires s (s.setBranch b (s.branch b).stopped) := s.setBranch_wires b (by rfl) (by rfl)
    have only := (law.only (pool.conducts found)).keeps stopped
    have placed : PoolLaw (s.setBranch b (s.branch b).stopped) := (s.setBranch_keepsPool b (by rfl)).pool pool
    split
    · simp only
      split
      · next st _ =>
        exact ((stopped.frees (only.endOnWires placed st)).becomeIdle law (placed.endOnWires j st)).next
      · next readyAt _ =>
        have waits : PoolLaw ((s.setBranch b (s.branch b).stopped).updateJob j fun i => i.retrying readyAt) :=
          (State.updateJob_keepsPool _ j fun _ => by rfl).pool placed
        have settled := (stopped.frees (only.updateJob fun _ => by rfl)).keeps (waits.settleRouteOf_keepsWires j)
        exact (settled.becomeIdle law
          ((State.settleRouteOf_settles (known := False) _ j False.elim).pool waits)).next
    all_goals exact law.next

theorem execStretchIntervalExpires_engineLaw (seen : StretchEnd) :
    AnswerEngineLaw (execStretchIntervalExpires b seen s) := by
  unfold execStretchIntervalExpires
  split
  · exact law.next
  · next c j found =>
    have low : KeepsWires s (s.setBranch b ((s.branch b).see ⟨false, seen.dataHigh⟩)) := s.setBranch_wires b (by rfl) (by rfl)
    have only := ((law.only (pool.conducts found)).keeps low).congr (j.withReceived_identity c.phase seen.received)
    have placed : PoolLaw (s.setBranch b ((s.branch b).see ⟨false, seen.dataHigh⟩)) :=
      (s.setBranch_keepsPool b (by rfl)).pool pool
    split
    · exact law.next
    · split
      · exact ((low.frees (only.endOnWires placed _)).enterRecovery law _).next
      · exact law.next

omit law in
theorem EngineLaw.lossBeforeAck {t : State} (law : EngineLaw t) (keeps : KeepsWires t s) {j : Job}
    (only : OnlyOnWires s b j) : EngineLaw (s.lossBeforeAck b j) := by
  have counted : KeepsWires s (s.countLoss b) := s.setBranch_wires b (by rfl) (by rfl)
  have placed : PoolLaw (s.countLoss b) := (s.countLoss_keepsPool b).pool pool
  unfold State.lossBeforeAck
  simp only
  split
  · have queued : PoolLaw ((s.countLoss b).updateJob j Job.requeued) :=
      (State.updateJob_keepsPool _ j fun _ => by rfl).pool placed
    exact (((keeps.trans counted).frees ((only.keeps counted).updateJob fun _ => by rfl)).keeps
      (queued.settleRouteOf_keepsWires j)).enterWaitFree law
  · exact ((keeps.trans counted).frees (((only.keeps counted).congr (by rfl)).endOnWires placed _)).enterWaitFree law

omit law in
theorem EngineLaw.lossAfterAck {t : State} (law : EngineLaw t) (keeps : KeepsWires t s) {j : Job}
    (only : OnlyOnWires s b j) : EngineLaw (s.lossAfterAck b j) := by
  have counted : KeepsWires s (s.countLoss b) := s.setBranch_wires b (by rfl) (by rfl)
  exact ((keeps.trans counted).frees ((only.keeps counted).endOnWires
    ((s.countLoss_keepsPool b).pool pool) _)).enterWaitFree law

theorem execContradiction_engineLaw (received : Byte) : AnswerEngineLaw (execContradiction b received s) := by
  unfold execContradiction
  split
  · exact law.next
  · next c j found =>
    have seen : KeepsWires s (s.setBranch b ((s.branch b).see ⟨true, false⟩)) := s.setBranch_wires b (by rfl) (by rfl)
    have only := ((law.only (pool.conducts found)).keeps seen).congr (j.withReceived_identity c.phase (some received))
    have placed : PoolLaw (s.setBranch b ((s.branch b).see ⟨true, false⟩)) := (s.setBranch_keepsPool b (by rfl)).pool pool
    split
    · refine EngineLaw.next ?_
      split
      · split
        · exact EngineLaw.lossAfterAck b placed law seen only
        · exact EngineLaw.lossBeforeAck b placed law seen only
      · exact (seen.frees (only.endOnWires placed _)).enterRecovery law _
    · exact law.next

/-! ### The line monitor and recovery -/

omit pool law in
theorem State.answerBranchReset_keepsWires (st : Status) : KeepsWires s (s.answerBranchReset b st) := by
  refine .of_branches ?_
  unfold State.answerBranchReset
  split <;> rfl

theorem EngineLaw.recoverySucceeds (waits : (s.branch b).engine.conducted = none) (cause : RecoveryCause) :
    EngineLaw (s.recoverySucceeds b cause) := by
  have idle : KeepsWires s (s.setBranch b { s.branch b with
      recoveries := bump Config.counterMax (s.branch b).recoveries
      engine := .idle }) := State.setBranch_idle waits rfl rfl
  have placed : PoolLaw (s.setBranch b { s.branch b with
      recoveries := bump Config.counterMax (s.branch b).recoveries
      engine := .idle }) := (s.setBranch_keepsPool b (by rfl)).pool pool
  unfold State.recoverySucceeds
  simp only
  split
  · exact (law.keeps (idle.trans (State.answerBranchReset_keepsWires ..))).selectIfIdle
      ((State.answerBranchReset_settles (known := False) ..).pool placed) b
  · exact (law.keeps ((idle.trans (State.offer_keepsWires ..)).trans (State.answerBranchReset_keepsWires ..))).selectIfIdle
      ((State.answerBranchReset_settles (known := False) ..).pool ((State.offer_keepsPool ..).pool placed)) b

theorem EngineLaw.recoveryFails (waits : (s.branch b).engine.conducted = none) (cause : RecoveryCause) :
    EngineLaw (s.recoveryFails b cause) := by
  have isolated : KeepsWires s (s.setBranch b { s.branch b with
      isolations := bump Config.counterMax (s.branch b).isolations
      engine := .isolated }) := State.setBranch_idle waits rfl rfl
  have placed : PoolLaw (s.setBranch b { s.branch b with
      isolations := bump Config.counterMax (s.branch b).isolations
      engine := .isolated }) := (s.setBranch_keepsPool b (by rfl)).pool pool
  have drained := placed.drain_keepsWires (b := b) fun j hj => by
    rw [State.branch_setBranch_self] at hj
    exact (engineLaw_iff.1 law b).waits waits hj
  exact law.keeps (((isolated.trans drained).trans (State.answerBranchReset_keepsWires ..)).trans
    (State.offer_keepsWires ..))

theorem execBusFreeSet_engineLaw : AnswerEngineLaw (execBusFreeSet b s) := by
  refine EngineLaw.ite law fun _ => ?_
  have free : KeepsWires s (s.setBranch b { s.branch b with busFree := true }) :=
    s.setBranch_wires b (by rfl) (by rfl)
  have placed : PoolLaw (s.setBranch b { s.branch b with busFree := true }) :=
    (s.setBranch_keepsPool b (by rfl)).pool pool
  unfold State.busBecomesFree
  simp only
  split
  · next engine =>
    have idle := State.setBranch_idle (s := s.setBranch b { s.branch b with busFree := true }) (b := b)
      (v := { (s.setBranch b { s.branch b with busFree := true }).branch b with engine := .idle })
      (by rw [engine]; rfl) rfl rfl
    exact ((law.keeps free).keeps idle).selectIfIdle ((State.setEngine_keepsPool _ b .idle).pool placed) b
  · next r engine => exact (law.keeps free).recoverySucceeds b placed (by rw [engine]; rfl) _
  all_goals exact law.keeps free

theorem execStuckLineIntervalExpires_engineLaw : AnswerEngineLaw (execStuckLineIntervalExpires b s) := by
  unfold execStuckLineIntervalExpires
  split
  · next engine =>
    split
    · exact law.next
    · exact law.ite fun _ => law.keeps (State.enterRecovery_keepsWires (by rw [engine]; rfl) _)
  · next engine => exact law.ite fun _ => law.recoveryFails b pool (by rw [engine]; rfl) _
  all_goals exact law.next

omit pool law in
theorem State.recovery_some {r : Recovery} (h : s.recovery b = some r) : (s.branch b).engine = .recovering r := by
  unfold State.recovery at h
  split at h <;> cases h
  assumption

theorem execRecoveryClockIntervalExpires_engineLaw : AnswerEngineLaw (execRecoveryClockIntervalExpires b s) := by
  have low : KeepsWires s (s.setBranch b ((s.branch b).see ⟨false, (s.branch b).lines.dataHigh⟩)) :=
    s.setBranch_wires b (by rfl) (by rfl)
  unfold execRecoveryClockIntervalExpires
  split
  · exact law.next
  · next found =>
    refine law.ite fun _ => (law.keeps low).recoveryFails b ((s.setBranch_keepsPool b (by rfl)).pool pool) ?_ _
    rw [(low.branch b).engine, s.recovery_some b found]
    rfl

theorem execRecoveryPulseDone_engineLaw (dataHigh : Bool) : AnswerEngineLaw (execRecoveryPulseDone b dataHigh s) := by
  have pulsed : KeepsWires s (s.setBranch b ((s.branch b).pulsed dataHigh)) := s.setBranch_wires b (by rfl) (by rfl)
  unfold execRecoveryPulseDone
  split
  · exact law.next
  · next found =>
    have waits : (s.branch b).engine.conducted = none := by rw [s.recovery_some b found]; rfl
    split
    · simp only
      split
      · exact ((law.keeps pulsed).recoveryFails b ((s.setBranch_keepsPool b (by rfl)).pool pool)
          ((pulsed.branch b).engine.trans waits) _).next
      · exact (law.keeps (State.setBranch_idle waits (by rfl) (by rfl))).next
    · exact law.next

omit pool in
theorem execRecoveryStopDone_engineLaw (dataHigh : Bool) : AnswerEngineLaw (execRecoveryStopDone b dataHigh s) := by
  unfold execRecoveryStopDone
  split
  · exact law.next
  · next found =>
    have waits : (s.branch b).engine.conducted = none := by rw [s.recovery_some b found]; rfl
    split
    · exact (law.keeps (State.setBranch_idle waits (by rfl) (by rfl))).next
    · exact law.next

omit pool law in
/-- A line change leaves the engine with the job it conducts. -/
theorem Branch.react_conducted (br : Branch) (now : Nat) (line : BusLine) :
    (br.react now line).engine.conducted = br.engine.conducted := by
  unfold Branch.react
  split
  · next engine => rw [engine]; rfl
  · next engine =>
    split
    · rw [engine]; rfl
    · split
      · rw [engine]; rfl
      · rfl
    all_goals rw [engine]; rfl
  · next c engine =>
    rw [engine]
    show some (c.onLine ..).slot = some c.slot
    unfold Conduct.onLine
    repeat' split
    all_goals rfl
  all_goals rfl

omit pool in
theorem execBranchLineLevelChange_engineLaw (line : BusLine) (high : Bool) :
    AnswerEngineLaw (execBranchLineLevelChange b line high s) := by
  unfold execBranchLineLevelChange
  simp only
  split
  · exact law.next
  · have seen (lines : Lines) : (s.branch b).KeepsWires ((s.branch b).see lines) := .of_queue rfl rfl
    exact (law.keeps (State.setBranch_keepsWires ((seen _).trans (.of_queue (Branch.react_conducted ..)
      (Branch.react_queue ..))))).next

/-! ### The timers of a job, and the waiting late failure -/

omit b

theorem execJobDeadlineExpires_engineLaw (slot : SlotId) (atBoundary : Bool) :
    AnswerEngineLaw (execJobDeadlineExpires slot atBoundary s) := by
  unfold execJobDeadlineExpires
  split
  · exact law.next
  · next j found =>
    have member : j ∈ s.jobs := List.mem_of_find?_eq_some found
    have stands := pool.slotWires member
    have ends (waits : j.onWires = false) :
        EngineLaw ((s.endJob j.withoutProgress .deadline).selectIfIdle j.branch) :=
      (law.keeps (pool.endJob_keepsWires (j := j.withoutProgress) (waits ▸ stands) _)).selectIfIdle
        (pool.endJob ..) _
    refine law.ite fun _ => ?_
    unfold State.deadlineExpires
    split
    · next state => exact ends (by rw [Job.onWires, state])
    · next state => exact ends (by rw [Job.onWires, state])
    · next state =>
      have wires : j.onWires = true := by rw [Job.onWires, state]
      exact law.keeps (State.makeEnding_keepsWires (wires ▸ stands) ..)
    · exact law

theorem execRetryWaitEnds_engineLaw (slot : SlotId) : AnswerEngineLaw (execRetryWaitEnds slot s) := by
  unfold execRetryWaitEnds
  split
  · exact law.next
  · next j found =>
    have stands := pool.slotWires (List.mem_of_find?_eq_some found)
    split
    · next readyAt state =>
      have waits : j.onWires = false := by rw [Job.onWires, state]
      have queued : KeepsWires s (s.updateJob j fun i => { i with state := .queued }) :=
        State.updateJob_keepsWires (fun _ => rfl) fun i hi same => ((waits ▸ stands) i hi same).symm
      exact law.ite fun _ => (law.keeps queued).selectIfIdle ((s.updateJob_keepsPool j fun _ => by rfl).pool pool) _
    all_goals exact law.next

theorem execWaitingLateFailureCarriedOut_engineLaw (r : RouteId) :
    AnswerEngineLaw (execWaitingLateFailureCarriedOut r s) := by
  unfold execWaitingLateFailureCarriedOut
  refine EngineLaw.next ?_
  split
  · exact law
  · have settled := law.keeps (pool.settleWaiting_keepsWires r)
    unfold State.selectForRoute
    split
    · exact settled
    · exact settled.selectIfIdle ((s.settleWaiting_settles (known := False) r False.elim).pool pool) _

end

end Sys2Proof.Machine
end

section
/-! SUPPORT. The law of the engines under the requests, the close procedure and the restart effects, and under every
command. -/

namespace Sys2Proof.Machine

/-! ### New jobs -/

/-- A job that waits, in a slot of its own, joins its queue (R61, R63, R155). -/
theorem EngineLaw.acceptJob {s : State} (law : EngineLaw s) (pool : PoolLaw s) {j : Job} (waits : j.onWires = false)
    (fresh : ∀ i ∈ s.jobs, i.slot ≠ j.slot) (room : j.isHost = true → s.hostJobs < 20) :
    EngineLaw (s.acceptJob j) := by
  refine EngineLaw.selectIfIdle ?_ (pool.placeInQueue fresh room) j.branch
  refine engineLaw_iff.2 fun k => ?_
  have before := engineLaw_iff.1 law k
  rw [State.placeInQueue, State.branch_setBranch]
  split
  · next e =>
    subst e
    have notConducted : (s.branch j.branch).engine.conducted ≠ some j.slot := fun conducted => by
      obtain ⟨i, hi, slot⟩ := before.conducts _ conducted
      exact fresh i (State.mem_jobs.2 ⟨_, hi⟩) slot
    refine ⟨fun i hi => ?_, fun n hn => ?_⟩
    · rcases mem_placeJob.1 hi with rfl | hi
      · rw [waits]
        exact ⟨fun h => (Bool.false_ne_true h).elim, fun h => absurd h notConducted⟩
      · exact before.conducted i hi
    · obtain ⟨i, hi, slot⟩ := before.conducts n hn
      exact ⟨i, mem_placeJob.2 (.inr hi), slot⟩
  · exact before

theorem EngineLaw.of_branches {s t : State} (law : EngineLaw s) (h : t.branches = s.branches) : EngineLaw t :=
  law.keeps (.of_branches h)

/-! ### The requests -/

section
variable {s : State} (law : EngineLaw s) (f : Frame)
include law

theorem EngineLaw.answer (payload : List Byte) : EngineLaw (s.answer f payload) := law.of_branches rfl

theorem EngineLaw.routeSet (form : RouteId × RouteConfig) : EngineLaw (s.routeSet f form) := by
  unfold State.routeSet
  split <;> exact law.of_branches rfl

theorem EngineLaw.routeClear (r : RouteId) : EngineLaw (s.routeClear f r) := by
  unfold State.routeClear
  split <;> exact law.of_branches rfl

theorem EngineLaw.holdRelease (r : RouteId) : EngineLaw (s.holdRelease f r) := by
  unfold State.holdRelease
  split <;> exact law.of_branches rfl

theorem EngineLaw.presenceReset (r : RouteId) : EngineLaw (s.presenceReset f r) := by
  have reset : (s.resetPresence r).branches = s.branches := by
    unfold State.resetPresence
    simp only
    split <;> simp
  unfold State.presenceReset
  split
  · exact (law.of_branches reset).answer f _
  · exact law.answer f _

theorem EngineLaw.watchSet (form : WatchId × WatchConfig) : EngineLaw (s.watchSet f form) := by
  unfold State.watchSet
  simp only
  split
  · exact law.answer f _
  · split <;> exact law.of_branches rfl

theorem EngineLaw.watchClear (w : WatchId) : EngineLaw (s.watchClear f w) := by
  unfold State.watchClear
  simp only
  split
  · exact law.answer f _
  · split <;> exact law.of_branches rfl

theorem EngineLaw.branchSet (form : BranchId × BranchConfig) : EngineLaw (s.branchSet f form) := by
  have settled {e : Engine} (h : e.settled = true) (enabled : Bool) :
      e.conducted = none ∧ (e.afterBranchSet enabled).conducted = none := by
    cases e <;> cases enabled <;> simp_all [Engine.settled, Engine.afterBranchSet, Engine.conducted]
  unfold State.branchSet
  simp only
  split
  · next accepted =>
    obtain ⟨before, after⟩ := settled (Bool.and_eq_true_iff.1 accepted).1 form.2.enabled
    exact (law.keeps (State.setBranch_idle before after (by rfl))).answer f _
  · exact law.answer f _

theorem EngineLaw.branchReset (b : BranchId) : EngineLaw (s.branchReset f b) := by
  have pending : KeepsWires s (s.setPendingReset b (some f.tag)) := .of_branches rfl
  have recovers (waits : (s.branch b).engine.conducted = none) :
      EngineLaw ((s.setPendingReset b (some f.tag)).enterRecovery b .reset) :=
    law.keeps (pending.trans (State.enterRecovery_keepsWires (s := s.setPendingReset b (some f.tag)) waits _))
  unfold State.branchReset
  split
  · exact law.answer f _
  · next engine => exact recovers (by rw [engine]; rfl)
  · next engine => exact recovers (by rw [engine]; rfl)
  all_goals exact law.answer f _

variable (pool : PoolLaw s)
include pool

theorem EngineLaw.acceptOwed {x : XferForm} {c : RouteConfig} {slot : SlotId} (free : s.hostSlot = some slot)
    (tag : Byte) : EngineLaw (s.acceptOwed tag x c slot) := by
  obtain ⟨fresh, room⟩ := State.hostSlot_some free
  unfold State.acceptOwed
  refine EngineLaw.acceptJob ?_ ?_ rfl fresh fun _ => room
  · exact law.of_branches rfl
  · exact pool.of_queues fun _ => rfl

theorem EngineLaw.acceptPosted {x : XferForm} {c : RouteConfig} {slot : SlotId} (free : s.hostSlot = some slot) :
    EngineLaw (s.acceptPosted f x c slot) := by
  obtain ⟨fresh, room⟩ := State.hostSlot_some free
  unfold State.acceptPosted
  refine EngineLaw.acceptJob ?_ ?_ rfl fresh fun _ => room
  · exact law.of_branches rfl
  · exact pool.of_queues fun _ => rfl

theorem EngineLaw.xfer (x : XferForm) : EngineLaw (s.xfer f x) := by
  unfold State.xfer
  split
  · exact law.answer f _
  · exact law.answer f _
  · exact law.answer f _
  · next free =>
    split
    · exact law.acceptPosted f pool free
    · exact law.acceptOwed pool free _

theorem EngineLaw.broadcast (x : BroadcastForm) : EngineLaw (s.broadcast f x) := by
  unfold State.broadcast
  split
  · exact law.answer f _
  · split
    · exact law.answer f _
    · next free =>
      obtain ⟨fresh, room⟩ := State.hostSlot_some free
      exact law.acceptJob pool rfl fresh fun _ => room

theorem EngineLaw.cancel (atBoundary : Bool) (target : Byte) : EngineLaw (s.cancel atBoundary f target) := by
  have ends (j : Job) (stands : s.SlotWires false j) : EngineLaw
      (((s.endJob j.withoutProgress .cancelled).answerCancel f target .ok).selectIfIdle j.branch) := by
    have ended := law.keeps (pool.endJob_keepsWires (j := j.withoutProgress) stands .cancelled)
    exact EngineLaw.selectIfIdle (ended.answer f _) ((pool.endJob ..).answer f _) _
  unfold State.cancel
  split
  · exact law.answer f _
  · next j found =>
    have stands := pool.slotWires (List.mem_of_find?_eq_some found)
    split
    · next state =>
      have waits : j.onWires = false := by rw [Job.onWires, state]
      exact ends j (waits ▸ stands)
    · next state =>
      have waits : j.onWires = false := by rw [Job.onWires, state]
      exact ends j (waits ▸ stands)
    · next state =>
      have wires : j.onWires = true := by rw [Job.onWires, state]
      have deferred : KeepsWires s (s.deferCancel j f.tag) :=
        State.updateJob_keepsWires (fun _ => rfl) fun _ _ _ => rfl
      exact law.keeps (deferred.trans (State.makeEnding_keepsWires (deferred.slotWires (wires ▸ stands)) ..))
    all_goals exact law.answer f _

end

/-! ### The session -/

section
variable {s : State} (law : EngineLaw s)
include law

theorem EngineLaw.testClose : EngineLaw s.testClose := by
  unfold State.testClose
  split
  · exact law.of_branches (by rw [State.completeClose_eq])
  · exact law

variable (pool : PoolLaw s)
include pool

/-- The close procedure ends jobs that wait, and makes ENDING jobs that are on the wires (R30, R31). -/
theorem EngineLaw.beginClose (boundary : List BranchId) : EngineLaw (s.beginClose boundary) := by
  have begun : PoolLaw s.closeBegun := pool.of_queues fun _ => rfl
  have removes (t : State) (j : Job) : PoolLaw t → PoolLaw (closeRemoves t j) :=
    (closeRemoves_settles (known := False) t j False.elim).pool
  have removed : KeepsWires s.closeBegun
      ((s.closeBegun.jobs.filter fun j => !j.onWires).foldl closeRemoves s.closeBegun) := by
    refine .foldl (wires := false) removes (fun t j _ waits => (closeRemoves_loses t j).keepsWires waits) _ _ begun
      fun j hj => ?_
    obtain ⟨member, waits⟩ := List.mem_filter.1 hj
    have waits : j.onWires = false := by simpa using waits
    exact waits ▸ begun.slotWires member
  have placed : PoolLaw ((s.closeBegun.jobs.filter fun j => !j.onWires).foldl closeRemoves s.closeBegun) :=
    List.foldlRecOn _ _ begun fun t pool j _ => removes t j pool
  have made := KeepsWires.foldl (wires := true)
    (f := fun u j => u.makeEnding j .close (boundary.contains j.branch))
    (fun t j pool => (t.makeEnding_keepsPool ..).pool pool) (fun t j _ on => State.makeEnding_keepsWires on ..)
    (List.filter (fun j => decide (j.state = .active)) _) _ placed fun j hj => by
      obtain ⟨member, active⟩ := List.mem_filter.1 hj
      have wires : j.onWires = true := by rw [Job.onWires, of_decide_eq_true active]
      exact wires ▸ placed.slotWires member
  rw [State.beginClose_eq]
  exact (law.of_branches (t := s.closeBegun) rfl).keeps (removed.trans made)

theorem EngineLaw.restartTaken (tag : Byte) (boundary : List BranchId) : EngineLaw (s.restartTaken tag boundary) := by
  unfold State.restartTaken
  simp only
  split
  · exact (EngineLaw.beginClose (s := s.restartPending tag) (law.of_branches rfl) (pool.of_queues fun _ => rfl)
      boundary).testClose
  · exact law.of_branches rfl

end

end Sys2Proof.Machine
end

section
/-! SUPPORT. Every command keeps the law of the engines (R64, R68, R85). -/

namespace Sys2Proof.Machine

section
variable {s : State} (law : EngineLaw s) (pool : PoolLaw s)
include law pool

theorem EngineLaw.makePoll {slot : SlotId} (free : s.freeSlot = some slot) (w : WatchId) (c : WatchConfig)
    (rc : RouteConfig) : EngineLaw (s.makePoll w c slot rc) := by
  unfold State.makePoll
  refine EngineLaw.acceptJob ?_ ?_ rfl (State.freeSlot_some free) fun host => ?_
  · exact law.of_branches rfl
  · exact pool.of_queues fun _ => rfl
  · simp [Job.isHost, Job.isPoll, newJob] at host

theorem EngineLaw.countdownExpires (w : WatchId) (c : WatchConfig) : EngineLaw (s.countdownExpires w c) := by
  have restarted : EngineLaw (s.setWatch w { s.watch w with countdown := c.period }) := law.of_branches rfl
  unfold State.countdownExpires
  simp only
  split
  · exact restarted.of_branches rfl
  · next plan => exact restarted.makePoll (pool.of_queues fun _ => rfl) (State.pollPlan_free plan) w c _

theorem EngineLaw.close (tag : Byte) (boundary : List BranchId) : EngineLaw (s.close tag boundary) := by
  rw [State.close_eq]
  exact (EngineLaw.beginClose (s := s.closePending tag) (law.of_branches rfl) (pool.of_queues fun _ => rfl)
    boundary).testClose

/-- A request command keeps the law of the engines if its action does. -/
theorem EngineLaw.request {α : Type} {k : Kind} {form : List Byte → Option α} {act : State → Frame → α → State}
    (acts : ∀ t f a, EngineLaw t → PoolLaw t → EngineLaw (act t f a)) : EngineLaw (s.request k form act) := by
  rcases s.request_cases k form act with h | ⟨f, rest, -, -, -, ⟨st, -, h⟩ | ⟨a, -, h⟩⟩
  · exact h.symm ▸ law
  · exact h.symm ▸ law.of_branches rfl
  · have acted := acts (s.taken f rest) f a (law.of_branches rfl) (pool.of_queues fun _ => rfl)
    exact h.symm ▸ acted.of_branches rfl

end

/-- With nothing in the pool and nothing conducted, the law of the engines asks for nothing. -/
theorem engineLaw_empty {s : State} (queues : ∀ b, (s.branch b).queue = [])
    (engines : ∀ b, (s.branch b).engine.conducted = none) : EngineLaw s := by
  refine engineLaw_iff.2 fun b => ⟨fun j hj => ?_, fun n hn => ?_⟩
  · rw [queues b] at hj
    cases hj
  · rw [engines b] at hn
    cases hn

theorem fullReset_engineLaw (cause : ResetCause) (lspd : LinkSpeed) (lines : Vector Lines 4) (s : State) :
    AnswerEngineLaw (exec (.fullReset cause lspd lines) s) := by
  have branch (b : BranchId) : (mapTable Branch.reset lines)[b] = Branch.reset lines[b] := mapTable_getElem ..
  exact ⟨_, exec_fullReset .., engineLaw_empty (fun b => (congrArg Branch.queue (branch b) :))
    fun b => (congrArg (fun br => br.engine.conducted) (branch b) :)⟩

/-- The restart effects find the pool empty, and leave every engine IDLE or OFF (R35, R86). -/
theorem applyRestart_engineLaw {s : State} (sent : s.restartSent = true) (law : SessionLaw s) (restart : RestartLaw s) :
    EngineLaw s.applyRestart := by
  have closed : s.session = .closed := by
    refine (restart.answered (Nat.le_antisymm restart.one ?_)).1
    simp only [State.restartAnswers, sent, Bool.toNat_true]
    omega
  have queues (b : BranchId) : (s.restarted.branch b).queue = [] :=
    (s.restarted_queue b).trans (State.jobs_eq_nil.1 (law.empty closed) b)
  have selects : s.applyRestart = s.restarted := State.foldl_selectIfIdle_empty queues (List.finRange 4)
  rw [selects]
  refine engineLaw_empty queues fun b => ?_
  have branch : s.restarted.branch b = (s.branch b).restarted := mapTable_getElem ..
  rw [branch, Branch.restarted]
  split <;> rfl

theorem EngineLaw.exec {s : State} (law : EngineLaw s) (pool : PoolLaw s) (session : SessionLaw s)
    (restart : RestartLaw s) (c : Instr) : AnswerEngineLaw (exec c s) := by
  have behind {t : State} (same : t.behindReceiver = s.behindReceiver) : EngineLaw t :=
    law.of_branches (congrArg State.branches same :)
  cases c with
  | fullReset cause lspd lines => exact fullReset_engineLaw cause lspd lines s
  | byteArrives c =>
    rw [exec_byteArrives]
    exact (behind (s.receive_behind _)).next
  | gapIntervalExpires =>
    rw [exec_gapIntervalExpires, execGapIntervalExpires]
    split
    · exact law.next
    · exact law.ite fun _ => behind rfl
  | transmitStart =>
    rw [exec_transmitStart, execTransmitStart]
    split
    · next idle =>
      obtain ⟨-, -, ⟨branches, -⟩, -⟩ := State.choose_transmits idle
      exact (law.of_branches branches).next
    · exact law.next
  | frameTransmitted =>
    rw [exec_frameTransmitted, execFrameTransmitted]
    split
    · exact law.next
    · exact ⟨_, rfl, law.of_branches rfl⟩
  | restartEffects =>
    rw [exec_restartEffects, execRestartEffects]
    split
    · next sent => exact (applyRestart_engineLaw sent session restart).next
    · exact law.next
  | requestOfUnknownKind =>
    show AnswerEngineLaw (execRequestOfUnknownKind s)
    unfold execRequestOfUnknownKind
    split
    · exact law.next
    · next taken => exact ⟨_, rfl, (law.of_branches (State.take_branches taken)).of_branches rfl⟩
  | hello => exact (law.request pool fun t f _ law _ => law.answer f _).next
  | openSession => exact ⟨_, rfl, law.request pool fun t f _ law _ => law.of_branches rfl⟩
  | closeSession boundary => exact (law.request pool fun t f _ law pool => law.close pool f.tag boundary).next
  | closeProcedureCompletes =>
    rw [exec_closeProcedureCompletes, execCloseProcedureCompletes]
    exact law.ite fun _ => law.testClose
  | restart boundary => exact (law.request pool fun t f _ law pool => law.restartTaken pool f.tag boundary).next
  | status => exact ⟨_, rfl, law.request pool fun t f _ law _ => law.of_branches rfl⟩
  | credit => exact ⟨_, rfl, law.request pool fun t f _ law _ => law.of_branches rfl⟩
  | routeSet => exact (law.request pool fun t f form law _ => law.routeSet f form).next
  | routeGet => exact (law.request pool fun t f _ law _ => law.answer f _).next
  | routeClear => exact (law.request pool fun t f r law _ => law.routeClear f r).next
  | holdRelease => exact (law.request pool fun t f r law _ => law.holdRelease f r).next
  | presenceReset => exact (law.request pool fun t f r law _ => law.presenceReset f r).next
  | branchSet => exact (law.request pool fun t f form law _ => law.branchSet f form).next
  | branchGet => exact (law.request pool fun t f _ law _ => law.answer f _).next
  | branchReset => exact (law.request pool fun t f b law _ => law.branchReset f b).next
  | xfer => exact (law.request pool fun t f x law pool => law.xfer f pool x).next
  | broadcast => exact (law.request pool fun t f x law pool => law.broadcast f pool x).next
  | cancel atBoundary => exact (law.request pool fun t f target law pool => law.cancel f pool atBoundary target).next
  | watchSet => exact (law.request pool fun t f form law _ => law.watchSet f form).next
  | watchGet => exact (law.request pool fun t f _ law _ => law.answer f _).next
  | watchClear => exact (law.request pool fun t f w law _ => law.watchClear f w).next
  | watchCountdownExpires w =>
    rw [exec_watchCountdownExpires, execWatchCountdownExpires]
    split
    · exact law.next
    · exact law.ite fun _ => law.countdownExpires pool w _
  | jobDeadlineExpires slot atBoundary => exact execJobDeadlineExpires_engineLaw pool law slot atBoundary
  | retryWaitEnds slot => exact execRetryWaitEnds_engineLaw pool law slot
  | busFreeSet b => exact execBusFreeSet_engineLaw b pool law
  | stuckLineIntervalExpires b => exact execStuckLineIntervalExpires_engineLaw b pool law
  | startPhaseDone b => exact execStartPhaseDone_engineLaw b pool law
  | addressPhaseDone b acknowledged => exact execAddressPhaseDone_engineLaw b pool law acknowledged
  | writingByteDone b acknowledged => exact execWritingByteDone_engineLaw b pool law acknowledged
  | readingByteDone b received => exact execReadingByteDone_engineLaw b pool law received
  | restartPhaseDone b => exact execRestartPhaseDone_engineLaw b pool law
  | stoppingDone b => exact execStoppingDone_engineLaw b pool law
  | stretchIntervalExpires b seen => exact execStretchIntervalExpires_engineLaw b pool law seen
  | contradiction b received => exact execContradiction_engineLaw b pool law received
  | recoveryClockIntervalExpires b => exact execRecoveryClockIntervalExpires_engineLaw b pool law
  | recoveryPulseDone b dataHigh => exact execRecoveryPulseDone_engineLaw b pool law dataHigh
  | recoveryStopDone b dataHigh => exact execRecoveryStopDone_engineLaw b law dataHigh
  | waitingLateFailureCarriedOut r => exact execWaitingLateFailureCarriedOut_engineLaw pool law r
  | branchLineLevelChange b line high => exact execBranchLineLevelChange_engineLaw b law line high

/-- Settles O60: every command keeps the law of the engines, the laws of the pool and of the session giving what it
needs. -/
theorem everyStepKeepsTheEngineLaw : Obligations.EveryStepKeepsTheEngineLaw := by
  intro s t pool session restart law h
  unfold step at h
  split at h
  next =>
    cases h
    exact law.of_branches rfl
  next c rest _ =>
    obtain ⟨u, hu, kept⟩ := EngineLaw.exec (s := { s with pending := rest }) (law.of_branches rfl)
      (pool.of_queues fun _ => rfl) (session.congr rfl (fun _ => rfl) id) (restart.congr rfl rfl) c
    cases hu.symm.trans h
    exact kept

end Sys2Proof.Machine
end

section
/-! SUPPORT. Jobs that wait and end, and the two timers of a job (R69, R70, R77, R157). -/

namespace Sys2Proof.Machine

/-! ### Jobs that wait -/

/-- A job that waits is QUEUED or in RETRY_WAIT (R57). -/
def Job.Waiting (j : Job) : Prop := j.state = .queued ∨ ∃ at_, j.state = .retryWait at_

/-- The reply of an owed job that ends while it waits, no CANCEL being deferred on it (R74). -/
theorem endReplies_waiting {j : Job} (cancel : j.cancelTag = none) (tag : Byte) (st : Status) :
    endReplies j.withoutProgress tag st =
      [if j.op = .broadcast then ⟨0xA1, tag, [st.code, 0, byte j.arbLosses]⟩
        else ⟨0xA0, tag, [st.code, 0, 0, byte j.attempts, byte j.arbLosses]⟩] := by
  have none : j.withoutProgress.cancelTag = none := cancel
  rw [endReplies, none]
  rfl

/-- An owed job that waits ends with no evidence about its route: its reply is queued, and it leaves (R57, R73, R135). -/
theorem State.endJob_waiting {s : State} {j : Job} {tag : Byte} {st : Status} (session : s.session ≠ .closing)
    (owed : j.owedTag = some tag) (cancel : j.cancelTag = none) (neutral : classify st false = .neutral) :
    s.endJob j.withoutProgress st = s.afterWaitingEnd j tag st.code := by
  have owed' : j.withoutProgress.owedTag = some tag := owed
  have deliveries : j.withoutProgress.deliveries st = _ :=
    (congrArg (fun o : Option Byte => match o with
      | none => []
      | some tag => endReplies j.withoutProgress tag st) owed').trans (endReplies_waiting cancel tag st)
  rw [State.endJob_owed owed', State.countCloseEnd_not_closing session,
    s.deliver_neutral j.withoutProgress (fun _ _ _ => cancel) neutral, deliveries]
  unfold State.leave State.afterWaitingEnd
  have route : j.withoutProgress.route = j.route := rfl
  rw [route]
  cases j.route <;> rfl

/-- A poll that waits ends silently, with POLL_OUT cleared (R157). -/
theorem State.endJob_waitingPoll {s : State} {j : Job} {w : WatchId} {r : RouteId} {st : Status}
    (session : s.session ≠ .closing) (origin : j.origin = .watch w) (route : j.route = some r)
    (neutral : classify st false = .neutral) (fails : st ≠ .ok) :
    s.endJob j.withoutProgress st =
      ((s.setBranch j.branch
          { s.branch j.branch with queue := (s.branch j.branch).queue.filter fun i => i.slot ≠ j.slot }).setRoute r
        { s.route r with jobs := (s.route r).jobs - 1 }).setWatch w { s.watch w with pollOut := false } := by
  have poll : j.withoutProgress.origin = .watch w := origin
  have silent : j.withoutProgress.deliveries st = [] := by simp [Job.deliveries, Job.owedTag, poll]
  have delivers : s.deliver j.withoutProgress st = s.leave j := by
    rw [s.deliver_neutral j.withoutProgress (fun tag host => by simp [poll] at host) neutral, silent, List.append_nil]
    rw [State.leave_eq, State.leave_eq s j]
    rfl
  have left : s.leave j = (s.dropJob j).jobLeaves r := by
    unfold State.leave
    rw [route]
  have ends (t : State) : t.pollEnds w st [] = t.clearPollOut w := by
    unfold State.pollEnds
    simp only [fails, and_false, if_false]
    split <;> rfl
  rw [State.endJob, State.endDelivered, State.countCloseEnd_not_closing session, delivers,
    State.postedEnds_quiet (fun tag post host _ => by simp [poll] at host), State.watchTakes_watch poll]
  exact (ends _).trans (by rw [left]; rfl)

/-! ### The timers -/

section
variable {s : State} {slot : SlotId}

theorem exec_jobDeadlineExpires_none (none : ∀ j ∈ s.jobs, j.slot ≠ slot) (atBoundary : Bool) :
    exec (.jobDeadlineExpires slot atBoundary) s = .next s := by
  show execJobDeadlineExpires slot atBoundary s = _
  rw [execJobDeadlineExpires, State.findJob_none none]

theorem exec_jobDeadlineExpires (law : PoolLaw s) {j : Job} (hj : j ∈ s.jobs) (here : j.slot = slot)
    (atBoundary : Bool) : exec (.jobDeadlineExpires slot atBoundary) s =
      .next (if j.deadlineAt ≤ s.now then s.deadlineExpires j atBoundary else s) := by
  show execJobDeadlineExpires slot atBoundary s = _
  rw [execJobDeadlineExpires, ← here, law.findJob hj]

/-- A job that waits as its deadline expires. -/
theorem State.deadlineExpires_waiting {j : Job} (waits : j.Waiting) (s : State) (atBoundary : Bool) :
    s.deadlineExpires j atBoundary = (s.endJob j.withoutProgress .deadline).selectIfIdle j.branch := by
  unfold State.deadlineExpires
  rcases waits with state | ⟨at_, state⟩ <;> rw [state]

theorem exec_jobDeadlineExpires_waiting (law : PoolLaw s) {j : Job} (hj : j ∈ s.jobs) (here : j.slot = slot)
    (due : j.deadlineAt ≤ s.now) (waits : j.Waiting) (atBoundary : Bool) :
    exec (.jobDeadlineExpires slot atBoundary) s =
      .next ((s.endJob j.withoutProgress .deadline).selectIfIdle j.branch) := by
  rw [exec_jobDeadlineExpires law hj here, if_pos due, State.deadlineExpires_waiting waits]

/-- Settles O33: by the state of the job that stands in the slot. -/
theorem deadlineActsByTheJobsState : Obligations.DeadlineActsByTheJobsState := by
  refine fun slot atBoundary s law => ⟨fun none => exec_jobDeadlineExpires_none none atBoundary, fun j hj here =>
    ⟨fun early => ?_, fun due ⟨cause, state⟩ => ?_, fun due state => ?_,
      fun tag opened due waits owed cancel => ?_, fun w r opened due waits origin route => ?_⟩⟩
  · rw [exec_jobDeadlineExpires law hj here, if_neg (Nat.not_le.2 early)]
  · rw [exec_jobDeadlineExpires law hj here, if_pos due, State.deadlineExpires, state]
  · rw [exec_jobDeadlineExpires law hj here, if_pos due, State.deadlineExpires, state]
    exact congrArg Host.Outcome.next (s.makeEnding_eq j .deadline atBoundary)
  · rw [exec_jobDeadlineExpires_waiting law hj here due waits,
      State.endJob_waiting (by rw [opened]; decide) owed cancel rfl]
    rfl
  · rw [exec_jobDeadlineExpires_waiting law hj here due waits,
      State.endJob_waitingPoll (by rw [opened]; decide) origin route rfl (by decide)]

/-- Settles O34: only a job in RETRY_WAIT whose time has come is changed. -/
theorem retryWaitEndsInPlace : Obligations.RetryWaitEndsInPlace := by
  intro slot s law
  have runs {j : Job} (hj : j ∈ s.jobs) (here : j.slot = slot) : s.findJob slot = some j := here ▸ law.findJob hj
  refine ⟨fun none => ?_, fun j hj here => ⟨fun at_ state early => ?_, fun other => ?_, fun at_ state due => ?_⟩⟩
  · show execRetryWaitEnds slot s = _
    rw [execRetryWaitEnds, State.findJob_none none]
  · show execRetryWaitEnds slot s = _
    simp only [execRetryWaitEnds, runs hj here, state]
    rw [if_neg (Nat.not_le.2 early)]
  · show execRetryWaitEnds slot s = _
    simp only [execRetryWaitEnds, runs hj here]
    cases state : j.state with
    | retryWait at_ => exact absurd state (other at_)
    | _ => rfl
  · show execRetryWaitEnds slot s = _
    simp only [execRetryWaitEnds, runs hj here, state]
    rw [if_pos due]
    rfl

end

end Sys2Proof.Machine
end

section
/-! SUPPORT. BUS_FREE_SET (R67, R87, R89, R112, R118, R119). -/

namespace Sys2Proof.Machine

/-! ### A recovery that ends in success -/

/-- An offer touches the notices and their counts alone. -/
theorem State.offer_eq (s : State) (x : NoticeBody) : s.offer x = { s with
    notices := noticesAfterOffer s x
    nextSeq := (s.offer x).nextSeq
    dropped := (s.offer x).dropped
    attnLow := (s.offer x).attnLow } := by
  have notices := s.offer_notices x
  rcases s.offer_cases x with ⟨-, e⟩ | ⟨-, -, e⟩ | ⟨-, -, e⟩ <;> rw [e] at notices ⊢ <;> rw [← notices]

/-- The reply to a BRANCH_RESET whose recovery succeeded (R112, R118). -/
def resetDone (b : BranchId) : Option Byte → List Frame
  | none => []
  | some tag => [⟨0x9A, tag, [0x00, byte b.val]⟩]

theorem State.answerBranchReset_ok (s : State) (b : BranchId) : s.answerBranchReset b .ok = { s with
    replies := s.replies ++ resetDone b (s.pendingReset b)
    pendingResets := (s.answerBranchReset b .ok).pendingResets } := by
  unfold State.answerBranchReset
  cases s.pendingReset b with
  | none => simp [resetDone]
  | some tag => rfl

/-- The branch as a recovery ends in success (R112). -/
def Branch.recovered (br : Branch) : Branch :=
  { br with busFree := true, engine := .idle, recoveries := min (br.recoveries + 1) 65535 }

/-- The state as a recovery has ended in success, before the engine selects. -/
def State.recovered (s : State) (b : BranchId) (cause : RecoveryCause) : State :=
  let t := s.setBranch b (s.branch b).recovered
  (if cause = .reset then t else t.offer (.branch b .recovered cause.status 0)).answerBranchReset b .ok

/-- The offer of a RECOVERED notice, unless the cause is RESET (R119). -/
theorem State.recovered_eq (s : State) (b : BranchId) (cause : RecoveryCause) : s.recovered b cause = { s with
    branches := (s.recovered b cause).branches
    pendingResets := (s.recovered b cause).pendingResets
    replies := s.replies ++ resetDone b (s.pendingReset b)
    notices := if cause = .reset then s.notices
      else noticesAfterOffer s (.branch b .recovered cause.status 0)
    nextSeq := (s.recovered b cause).nextSeq
    dropped := (s.recovered b cause).dropped
    attnLow := (s.recovered b cause).attnLow } := by
  unfold State.recovered
  simp only
  rw [State.answerBranchReset_ok]
  split
  · rfl
  · rw [State.offer_eq]
    rfl

theorem State.recovered_branch (s : State) (b k : BranchId) (cause : RecoveryCause) :
    (s.recovered b cause).branch k = if k = b then (s.branch b).recovered else s.branch k := by
  have branches : (s.recovered b cause).branches = (s.setBranch b (s.branch b).recovered).branches := by
    unfold State.recovered
    simp only
    rw [State.answerBranchReset_ok]
    split <;> simp
  rw [State.branch, branches]
  refine (s.branch_setBranch b k _).trans ?_
  simp only [eq_comm]

theorem State.recovered_pendingReset (s : State) (b k : BranchId) (cause : RecoveryCause) :
    (s.recovered b cause).pendingReset k = if k = b then none else s.pendingReset k := by
  unfold State.recovered
  simp only
  rw [State.answerBranchReset_pendingReset]
  split
  · rfl
  · split
    · rfl
    · rw [State.pendingReset, State.offer_pendingResets]
      rfl

/-! ### The command -/

section
variable {s : State} {b : BranchId}

/-- BUS_FREE_SET with BUS_FREE clear, both lines high and the engine not driving them. -/
theorem exec_busFreeSet_acts (clear : (s.branch b).busFree = false) (high : (s.branch b).lines = ⟨true, true⟩)
    (alone : (s.branch b).engine.leavesLinesAlone = true) :
    exec (.busFreeSet b) s = .next (s.busBecomesFree b) := by
  show execBusFreeSet b s = _
  simp only [execBusFreeSet, clear, high, alone]
  rfl

theorem exec_busFreeSet_nothing (h : (s.branch b).busFree = true ∨ (s.branch b).lines ≠ ⟨true, true⟩ ∨
    (s.branch b).engine.leavesLinesAlone = false) : exec (.busFreeSet b) s = .next s := by
  show execBusFreeSet b s = _
  refine congrArg Host.Outcome.next (if_neg ?_)
  simp only [Bool.and_eq_true, Bool.not_eq_true', not_and]
  intro ⟨⟨clear, clock⟩, data⟩ alone
  rcases h with set | low | drives
  · simp [clear] at set
  · exact low (by
      rcases lines : (s.branch b).lines with ⟨c, d⟩
      simp_all)
  · simp [alone] at drives

end

/-- Settles O37: by the engine, with both lines high and BUS_FREE clear. -/
theorem busFreeEndsTheWaits : Obligations.BusFreeEndsTheWaits := by
  refine fun s b => ⟨fun idle => exec_busFreeSet_nothing ?_, fun clear high =>
    ⟨fun away => ?_, fun stuck engine => ?_, fun r engine step => ?_⟩⟩
  · rcases idle with set | low | ⟨c, engine⟩ | ⟨r, engine, step⟩
    · exact .inl set
    · exact .inr (.inl low)
    · exact .inr (.inr (by rw [engine]; rfl))
    · exact .inr (.inr (by rw [engine]; exact beq_false_of_ne step))
  · have alone : (s.branch b).engine.leavesLinesAlone = true := by
      rcases away with engine | engine | engine <;> rw [engine] <;> rfl
    rw [exec_busFreeSet_acts clear high alone, State.busBecomesFree]
    simp only [State.branch_setBranch_self]
    rcases away with engine | engine | engine <;> rw [engine]
  · rw [exec_busFreeSet_acts clear high (by rw [engine]; rfl), State.busBecomesFree]
    simp only [State.branch_setBranch_self, engine]
    rw [State.becomeIdle, State.setEngine, State.branch_setBranch_self, State.setBranch_setBranch]
  · have succeeds : s.busBecomesFree b = (s.recovered b r.cause).selectIfIdle b := by
      rw [State.busBecomesFree]
      simp only [State.branch_setBranch_self, engine]
      unfold State.recoverySucceeds
      simp only [State.branch_setBranch_self, State.setBranch_setBranch]
      rfl
    rw [exec_busFreeSet_acts clear high (by rw [engine]; exact beq_iff_eq.2 step), succeeds]
    exact ⟨_, rfl, s.recovered_eq b r.cause, fun k => s.recovered_branch b k r.cause,
      fun k => s.recovered_pendingReset b k r.cause⟩

end Sys2Proof.Machine
end

section
/-! SUPPORT. The transfer requests (R59 to R63): what XFER and BROADCAST answer, and the job each becomes. -/

namespace Sys2Proof.Machine

/-! ### The reader and the pool -/

/-- Fields in their ranges that form no legal transfer are read as no form (R59). -/
theorem readXfer_illegal {x : XferForm} (data : x.writeData.length ≤ 32) (count : x.readCount ≤ 32)
    (illegal : ¬ x.IsLegal) : readXfer x.bytes = none := by
  have legal : x.legal = false := Bool.eq_false_iff.2 (mt x.legal_iff.1 illegal)
  have list := readList_listField (lo := 0) (hi := Config.maxData) (rest := [byte x.readCount])
    ⟨Nat.zero_le _, data⟩ (by decide)
  have number := readNumber_byte (lo := 0) (hi := Config.maxData) ⟨Nat.zero_le _, count⟩ (by omega)
  simp only [XferForm.bytes, List.cons_append, List.nil_append, readXfer, readIndex_byte (by decide : (32 : Nat) ≤ 256),
    readFlag_flagByte, list, number, Option.bind_eq_bind, Option.bind_some]
  cases op : x.op with
  | broadcast => rfl
  | write | read | writeRead =>
    refine if_neg (Bool.eq_false_iff.1 (Eq.trans ?_ legal))
    cases x
    cases op
    rfl

/-- A pool of 24 jobs, no two in one slot, has no free slot (R58). -/
theorem PoolLaw.freeSlot_full {s : State} (law : PoolLaw s) (full : s.jobs.length = 24) : s.freeSlot = none := by
  have taken (n : SlotId) : n ∈ s.jobs.map (·.slot) := by
    have card : (s.jobs.map (·.slot)).toFinset = Finset.univ := Finset.eq_univ_of_card _ (by
      rw [List.toFinset_card_of_nodup law.slots, List.length_map, full]
      rfl)
    exact List.mem_toFinset.1 (card ▸ Finset.mem_univ n)
  refine List.find?_eq_none.2 fun n _ => ?_
  obtain ⟨j, hj, slot⟩ := List.mem_map.1 (taken n)
  simp only [Bool.not_eq_true', Bool.not_eq_false, List.any_eq_true]
  exact ⟨j, hj, beq_iff_eq.2 slot⟩

/-- The host's share or the pool is full: no slot for a host job (R60, R62). -/
theorem PoolLaw.hostSlot_full {s : State} (law : PoolLaw s) (full : 20 ≤ s.jobs.countP Job.isHost ∨ s.jobs.length = 24) :
    s.hostSlot = none := by
  unfold State.hostSlot
  split
  · rfl
  · next room => exact law.freeSlot_full (full.resolve_left room)

/-- With room in both, a host job has a slot that no other job has (R58). -/
theorem State.hostSlot_of_room {s : State} (share : s.jobs.countP Job.isHost < 20) (pool : s.jobs.length < 24) :
    ∃ slot, s.hostSlot = some slot ∧ ∀ j ∈ s.jobs, j.slot ≠ slot := by
  obtain ⟨slot, free⟩ := State.freeSlot_of_room pool
  exact ⟨slot, (if_neg (Nat.not_le.2 share)).trans free, State.freeSlot_some free⟩

/-! ### A selection with a request in the dispatcher -/

/-- A selection is not touched by the request being taken. -/
theorem State.selectIfIdle_endTake (s : State) (b : BranchId) : (s.selectIfIdle b).endTake = s.endTake.selectIfIdle b := by
  have branch : s.endTake.branch b = s.branch b := rfl
  cases idle : (s.branch b).engine with
  | idle =>
    cases first : firstEligible [] (s.branch b).queue with
    | none => rw [State.selectIfIdle_none first, State.selectIfIdle_none (branch ▸ first)]
    | some j =>
      rw [State.selectIfIdle_some idle first, State.selectIfIdle_some (branch ▸ idle) (branch ▸ first)]
      unfold State.startJob State.enterRecovery
      simp only [branch]
      repeat' split
      all_goals rfl
  | off | waitFree | active | recovering | isolated =>
    rw [State.selectIfIdle_busy (by rw [idle]; nofun), State.selectIfIdle_busy (by rw [branch, idle]; nofun)]

/-! ### XFER -/

section
variable {s : State} {f : Frame} {rest : List Frame} {x : XferForm}

theorem AsksOpen.xfer (asks : AsksOpen s f rest .xfer) (range : x.InRange) (payload : f.payload = x.bytes) :
    exec .xfer s = .next ((s.taken f rest).xfer f x).endTake :=
  congrArg Host.Outcome.next (asks.act (by decide) readXfer State.xfer (payload ▸ readXfer_bytes range))

/-- An XFER that its action refuses is answered with the status alone (R60, R174). -/
theorem AsksOpen.xfer_refused (asks : AsksOpen s f rest .xfer) (range : x.InRange) (payload : f.payload = x.bytes)
    {st : Status} (refused : (s.taken f rest).xfer f x = (s.taken f rest).refuse f st) :
    exec .xfer s = .next (s.afterReply rest ⟨0xA0, f.tag, [st.code]⟩) := by
  rw [asks.xfer range payload, refused]
  refine congrArg Host.Outcome.next ((asks.asks.ready.answered _).trans ?_)
  rw [asks.asks.kind]
  rfl

theorem State.xfer_refused {t : State} {st : Status} (refusal : t.xferRefusal x = some st) : t.xfer f x = t.refuse f st := by
  rw [State.xfer, refusal]

theorem State.xfer_busy {t : State} {c : RouteConfig} (passes : t.xferRefusal x = none)
    (config : (t.route x.route).config = some c) (full : t.hostSlot = none) : t.xfer f x = t.refuse f .busy := by
  rw [State.xfer, passes, config, full]

theorem State.xfer_accepted {t : State} {c : RouteConfig} {slot : SlotId} (passes : t.xferRefusal x = none)
    (config : (t.route x.route).config = some c) (free : t.hostSlot = some slot) :
    t.xfer f x = if x.posted then t.acceptPosted f x c slot else t.acceptOwed f.tag x c slot := by
  rw [State.xfer, passes, config, free]

/-- XFER passes the checks on its route and its branch (R60, R140). -/
theorem State.xferRefusal_none {c : RouteConfig} (config : (s.route x.route).config = some c)
    (free : (s.route x.route).hold = none) (up : (s.branch c.branch).down = false)
    (present : (s.route x.route).presence = .absent → x.probe = true ∧ x.posted = false)
    (posting : x.posted = true → c.posting = true) : s.xferRefusal x = none := by
  have notAbsent : ¬ ((s.route x.route).presence = .absent ∧ (x.probe = false ∨ x.posted = true)) := by
    rintro ⟨absent, refused⟩
    obtain ⟨probe, owed⟩ := present absent
    simp [probe, owed] at refused
  have posts : (x.posted && !c.posting) = false := by
    cases posted : x.posted with
    | false => rfl
    | true => simp [posting posted]
  simp [State.xferRefusal, config, Route.held, free, up, notAbsent, posts]

/-- The route of a posted XFER as it is accepted: NEXT_POST advances, and JOBS rises (R61, R121). -/
theorem State.acceptPosted_eq (t : State) (c : RouteConfig) (slot : SlotId) : t.acceptPosted f x c slot =
    (((t.answer f (Status.code .posted :: bytes16 (t.route x.route).nextPost)).setRoute x.route
      { t.route x.route with
        jobs := (t.route x.route).jobs + 1
        nextPost := nextNumber (t.route x.route).nextPost }).placeInQueue
      (newJob slot t.now (.host f.tag) (some x.route) c.branch x.op x.writeData x.readCount x.urgent
        (some (t.route x.route).nextPost) c.deadline)).selectIfIdle c.branch := by
  have joined (u : State) (v : Route) :
      (u.setRoute x.route v).jobJoins x.route = u.setRoute x.route { v with jobs := v.jobs + 1 } := by
    rw [State.jobJoins, State.setRoute_setRoute, State.route_setRoute_self]
  exact congrArg (fun u : State => u.acceptJob (newJob slot t.now (.host f.tag) (some x.route) c.branch x.op x.writeData
    x.readCount x.urgent (some (t.route x.route).nextPost) c.deadline))
    (joined (t.answer f (Status.code .posted :: bytes16 (t.route x.route).nextPost)) _)

end

/-- Settles O27: each check of `State.xferRefusal`, once the checks ahead of it pass. -/
theorem xferRefusedInOrder : Obligations.XferRefusedInOrder := by
  refine ⟨fun f rest x s asks opened data count payload illegal => ?_, fun f rest x s asks range payload law =>
    ⟨fun free => ?_, fun c config => ⟨fun held => ?_, fun free down => ?_, fun free up absent must => ?_,
      fun free up present posted off => ?_, fun free up present posting full => ?_⟩⟩⟩
  · have malformed : readXfer f.payload = none := payload ▸ readXfer_illegal data count illegal
    have refused := asks.ready.refused asks.kind readXfer State.xfer
      (check_badForm asks.tag (by rw [State.taken, opened]; rfl) malformed)
    rw [asks.kind] at refused
    exact congrArg Host.Outcome.next refused
  · refine asks.xfer_refused range payload (State.xfer_refused (st := .badRoute) ?_)
    show s.xferRefusal x = _
    simp [State.xferRefusal, free]
  · refine asks.xfer_refused range payload (State.xfer_refused (st := .routeHeld) ?_)
    show s.xferRefusal x = _
    simp [State.xferRefusal, config, Route.held_iff, held]
  · refine asks.xfer_refused range payload (State.xfer_refused (st := .branchDown) ?_)
    show s.xferRefusal x = _
    simp [State.xferRefusal, config, Route.held, free, down]
  · refine asks.xfer_refused range payload (State.xfer_refused (st := .absent) ?_)
    show s.xferRefusal x = _
    simp [State.xferRefusal, config, Route.held, free, up, absent, must]
  · refine asks.xfer_refused range payload (State.xfer_refused (st := .badForm) ?_)
    show s.xferRefusal x = _
    simp [State.xferRefusal, config, Route.held, free, up, present, posted, off]
  · exact asks.xfer_refused range payload (State.xfer_busy (t := s.taken f rest) (c := c)
      (State.xferRefusal_none (s := s) config free up present posting) config (law.hostSlot_full full))

/-- Settles O28: the job in the slot `State.hostSlot` gives, posted or owed. -/
theorem xferBecomesAJob : Obligations.XferBecomesAJob := by
  intro f rest x c s asks range payload law config free up present posting share pool
  obtain ⟨slot, hostSlot, fresh⟩ := State.hostSlot_of_room share pool
  refine ⟨slot, fresh, ?_⟩
  have passes := State.xferRefusal_none config free up present posting
  rw [asks.xfer range payload, State.xfer_accepted (t := s.taken f rest) passes config hostSlot]
  refine congrArg Host.Outcome.next ?_
  cases posted : x.posted with
  | false =>
    rw [if_neg Bool.false_ne_true, State.acceptOwed, State.acceptJob, State.selectIfIdle_endTake]
    refine congrArg (State.selectIfIdle · c.branch) ?_
    simp only [Bool.false_eq_true, if_false, List.append_nil]
    simp only [State.endTake, ← asks.asks.ready.free]
    rfl
  | true =>
    have kind : f.kind + 0x80 = 0xA0 := by rw [asks.asks.kind]; rfl
    rw [if_pos rfl, State.acceptPosted_eq, State.selectIfIdle_endTake]
    refine congrArg (State.selectIfIdle · c.branch) ?_
    simp only [State.endTake, State.answer, Frame.replyWith, kind, ← asks.asks.ready.free]
    rfl

/-! ### BROADCAST -/

/-- Settles O29: the two checks of `State.broadcast`, and the job it makes. -/
theorem broadcastBecomesAJob : Obligations.BroadcastBecomesAJob := by
  intro f rest x s asks least most payload law
  have runs : exec .broadcast s = .next ((s.taken f rest).broadcast f x).endTake :=
    congrArg Host.Outcome.next
      (asks.act (by decide) readBroadcast State.broadcast (payload ▸ readBroadcast_bytes ⟨least, most⟩))
  have refused {st : Status} (acts : (s.taken f rest).broadcast f x = (s.taken f rest).refuse f st) :
      exec .broadcast s = .next (s.afterReply rest ⟨0xA1, f.tag, [st.code]⟩) := by
    rw [runs, acts]
    refine congrArg Host.Outcome.next ((asks.asks.ready.answered _).trans ?_)
    rw [asks.asks.kind]
    rfl
  have passes (up : (s.branch x.branch).down = false) : ¬ ((s.taken f rest).branch x.branch).down = true :=
    Bool.eq_false_iff.1 up
  refine ⟨fun down => refused (if_pos down), fun up full => refused (st := .busy) ?_, fun up share pool => ?_⟩
  · have none : (s.taken f rest).hostSlot = none := law.hostSlot_full full
    rw [State.broadcast, if_neg (passes up), none]
  · obtain ⟨slot, hostSlot, fresh⟩ := State.hostSlot_of_room share pool
    have hostSlot' : (s.taken f rest).hostSlot = some slot := hostSlot
    refine ⟨slot, fresh, ?_⟩
    rw [runs, State.broadcast, if_neg (passes up), hostSlot']
    refine congrArg Host.Outcome.next ((State.selectIfIdle_endTake ..).trans ?_)
    refine congrArg (State.selectIfIdle · x.branch) ?_
    simp only [State.endTake, ← asks.asks.ready.free]
    rfl

end Sys2Proof.Machine
end

section
/-! SUPPORT. CANCEL (R76 to R79), and the byte boundary at which a job's end is acted on (R98). -/

namespace Sys2Proof.Machine

/-! ### CANCEL -/

section
variable {s : State} {f : Frame} {rest : List Frame} {target : Byte} {atBoundary : Bool}

theorem State.owedJob_none (none : ∀ j ∈ s.jobs, j.owedTag ≠ some target) : s.owedJob target = Option.none :=
  List.find?_eq_none.2 fun j hj => by simpa using none j hj

/-- The one owed job of a TAG is found by it (R76). -/
theorem State.owedJob_some {j : Job} (hj : j ∈ s.jobs) (owed : j.owedTag = some target)
    (unique : ∀ i ∈ s.jobs, i.owedTag = some target → i = j) : s.owedJob target = some j := by
  cases found : s.owedJob target with
  | none => exact absurd (List.find?_eq_none.1 found j hj) (by simp [owed])
  | some i => rw [unique i (List.mem_of_find?_eq_some found) (by simpa using List.find?_some found)]

theorem AsksOpen.cancel (asks : AsksOpen s f rest .cancel) (payload : f.payload = [target]) (nonzero : target ≠ 0) :
    exec (.cancel atBoundary) s = .next ((s.taken f rest).cancel atBoundary f target).endTake :=
  congrArg Host.Outcome.next (asks.act (by decide) readCancel (State.cancel atBoundary)
    (by rw [payload]; exact if_neg nonzero))

/-- A CANCEL that is answered at once, and changes no job. -/
theorem AsksOpen.cancel_answered (asks : AsksOpen s f rest .cancel) (payload : f.payload = [target]) (nonzero : target ≠ 0)
    {st : Status} (acts : (s.taken f rest).cancel atBoundary f target = (s.taken f rest).answerCancel f target st) :
    exec (.cancel atBoundary) s = .next (s.afterReply rest ⟨0xA2, f.tag, [st.code, target]⟩) := by
  rw [asks.cancel payload nonzero, acts]
  refine congrArg Host.Outcome.next ((asks.asks.ready.answered _).trans ?_)
  rw [asks.asks.kind]
  rfl

/-- What a CANCEL of a waiting job does, past the general checks (R77). -/
theorem State.cancel_waiting {j : Job} (found : s.owedJob target = some j) (waits : j.Waiting) :
    s.cancel atBoundary f target =
      ((s.endJob j.withoutProgress .cancelled).answerCancel f target .ok).selectIfIdle j.branch := by
  rw [State.cancel, found]
  rcases waits with state | ⟨at_, state⟩ <;> simp only [state]

theorem State.cancel_active {j : Job} (found : s.owedJob target = some j) (state : j.state = .active) :
    s.cancel atBoundary f target = (s.deferCancel j f.tag).makeEnding j .cancel atBoundary := by
  rw [State.cancel, found]
  simp only [state]

theorem State.cancel_ending {j : Job} {cause : EndCause} (found : s.owedJob target = some j)
    (state : j.state = .ending cause) : s.cancel atBoundary f target =
      s.answerCancel f target (if cause = .cancel then .cancelPending else .tooLate) := by
  rw [State.cancel, found]
  simp only [state]
  cases cause <;> rfl

/-- A CANCEL is deferred on an ACTIVE job as it becomes ENDING: one change of its branch (R78, R98). -/
theorem State.deferCancel_makeEnding (s : State) (j : Job) (tag : Byte) (atBoundary : Bool) :
    (s.deferCancel j tag).makeEnding j .cancel atBoundary = s.setBranch j.branch
      { s.branch j.branch with
        engine := (s.branch j.branch).engine.onEnding j.slot .cancel atBoundary
        queue := (s.branch j.branch).queue.map fun i =>
          if i.slot = j.slot then { i with state := .ending .cancel, cancelTag := some tag } else i } := by
  have twice : ((s.branch j.branch).queue.map fun i => if i.slot = j.slot then { i with cancelTag := some tag } else i).map
        (fun i => if i.slot = j.slot then { i with state := .ending .cancel } else i) =
      (s.branch j.branch).queue.map fun i =>
        if i.slot = j.slot then { i with state := .ending .cancel, cancelTag := some tag } else i := by
    rw [List.map_map]
    refine List.map_congr_left fun i _ => ?_
    by_cases same : i.slot = j.slot <;> simp [same]
  rw [State.makeEnding_eq, State.deferCancel, State.updateJob, State.branch_setBranch_self, State.setBranch_setBranch]
  simp only [twice]

end

/-! ### The byte boundary -/

/-- Of the job the engine conducts, what becoming ENDING does to the engine is a matter of its phase (R98). -/
theorem Engine.onEnding_own (c : Conduct) (cause : EndCause) (atBoundary : Bool) :
    (Engine.active c).onEnding c.slot cause atBoundary = .active { c with phase := c.phase.onEnding cause atBoundary } := by
  rw [Engine.onEnding_active, if_pos rfl]

theorem Phase.onEnding_away (p : Phase) (cause : EndCause) : p.onEnding cause false = p := by
  cases p with
  | reading k => cases k <;> rfl
  | _ => rfl

/-- Settles O32: CANCEL by the state of its target, and the phases by their answer to a byte boundary. -/
theorem cancelAndTheByteBoundary : Obligations.CancelAndTheByteBoundary := by
  refine ⟨fun f rest target atBoundary s asks payload nonzero => ⟨fun absent => ?_, fun j hj owed unique => ?_⟩,
    fun c cause => ⟨?_, ?_, ?_⟩⟩
  · refine asks.cancel_answered payload nonzero (st := .notFound) ?_
    rw [State.cancel, show (s.taken f rest).owedJob target = none from State.owedJob_none absent]
  · have found : (s.taken f rest).owedJob target = some j := State.owedJob_some hj owed unique
    refine ⟨fun waits cancel => ?_, fun state => ?_, fun state => ?_, fun state => ?_⟩
    · have opened : (s.taken f rest).session ≠ .closing := by rw [State.taken, asks.opened]; decide
      rw [asks.cancel payload nonzero, State.cancel_waiting found waits, State.selectIfIdle_endTake,
        State.endJob_waiting opened owed cancel rfl]
      refine congrArg (fun t : State => Host.Outcome.next (t.selectIfIdle j.branch)) ?_
      have kind : f.kind + 0x80 = 0xA2 := by rw [asks.asks.kind]; rfl
      simp only [State.endTake, State.answerCancel, State.answer, Frame.replyWith, kind, ← asks.asks.ready.free]
      unfold State.afterWaitingEnd
      cases j.route <;> rfl
    · rw [asks.cancel payload nonzero, State.cancel_active found state, State.deferCancel_makeEnding]
      simp only [State.endTake, ← asks.asks.ready.free]
      rfl
    · exact asks.cancel_answered payload nonzero (st := .cancelPending) (State.cancel_ending found state)
    · exact asks.cancel_answered payload nonzero (st := .tooLate) (State.cancel_ending found state)
  · rw [Engine.onEnding_own, Phase.onEnding_away]
  · rintro (phase | ⟨k, phase⟩ | phase) <;> rw [Engine.onEnding_own, phase] <;> rfl
  · intro runs
    have same : c.phase.onEnding cause true = c.phase := by
      rcases runs with phase | ⟨k, phase⟩ | ⟨k, phase⟩ | ⟨k, phase⟩ <;> rw [phase] <;> rfl
    rw [Engine.onEnding_own, same]

end Sys2Proof.Machine
end

section
/-! SUPPORT. STOPPING_DONE of an owed job that ends, and of a job that retries (R95, R99, R106). -/

namespace Sys2Proof.Machine

/-! ### A presence outcome, seen from its route and from the notice queue -/

section
variable {s t : State} {r : RouteId}

/-- A chain of changes of PRESENCE reads nothing of the state but its route. -/
theorem State.route_changes_congr (c : Option Status) : ∀ (l : List Presence) {s t : State}, s.route r = t.route r →
    (l.foldl (fun s x => s.changePresence r c x) s).route r = (l.foldl (fun s x => s.changePresence r c x) t).route r
  | [], _, _, same => same
  | x :: l, _, _, same => State.route_changes_congr c l (by simp only [State.route_changePresence, same])

theorem State.presenceOutcome_route_congr (same : s.route r = t.route r) (st : Status) (acked : Bool) :
    (s.presenceOutcome r st acked).route r = (t.presenceOutcome r st acked).route r := by
  unfold State.presenceOutcome
  simp only [same]
  split
  · simp only [State.route_setRoute_self]
  · exact State.route_changes_congr _ _ (by simp only [State.route_setRoute_self])

theorem State.presenceOutcome_route_other {q : RouteId} (other : r ≠ q) (st : Status) (acked : Bool) :
    (s.presenceOutcome r st acked).route q = s.route q := by
  obtain ⟨p, good, bad, e⟩ := s.route_presenceOutcome r q st acked
  rw [e, if_neg other]

/-- An offer puts nothing ahead of a notice that waits. -/
theorem State.notices_prefix_offer (s : State) (x : NoticeBody) : s.notices <+: (s.offer x).notices := by
  rw [State.offer_notices, noticesAfterOffer]
  split
  · exact List.prefix_append ..
  · exact List.prefix_refl _

theorem State.notices_prefix_changes (c : Option Status) : ∀ (l : List Presence) (s : State),
    s.notices <+: (l.foldl (fun s x => s.changePresence r c x) s).notices
  | [], _ => List.prefix_refl _
  | x :: l, s => by
    refine List.IsPrefix.trans ?_ (State.notices_prefix_changes c l (s.changePresence r c x))
    unfold State.changePresence
    simp only
    split
    · exact (s.setRoute r { s.route r with presence := x }).notices_prefix_offer _
    · exact List.prefix_refl _

theorem State.notices_prefix_presenceOutcome (s : State) (r : RouteId) (st : Status) (acked : Bool) :
    s.notices <+: (s.presenceOutcome r st acked).notices := by
  unfold State.presenceOutcome
  simp only
  split
  · exact List.prefix_refl _
  · exact State.notices_prefix_changes _ _ (s.setRoute r _)

end

/-! ### An owed job that ends -/

section
variable (s : State) (b : BranchId) (j : Job) (tag : Byte) (st : Status)

/-- The owed job has left its queue with its replies queued, and the engine is IDLE with the lines released. -/
def State.stopAnswered : State := State.setBranch { s with replies := s.replies ++ endReplies j tag st } b
  { s.branch b with
    engine := .idle
    lines := ⟨true, true⟩
    busFree := false
    queue := (s.branch b).queue.filter fun i => i.slot ≠ j.slot }

/-- The outcome that the end gives to the route of the job, if it has one (R73, step 4). -/
def State.stopJudged : Option RouteId → State
  | none => s.stopAnswered b j tag st
  | some r => ((s.stopAnswered b j tag st).setRoute r
      { s.route r with jobs := (s.route r).jobs - 1 }).presenceOutcome r st j.addressAcked

variable {s b j tag st}

theorem State.stopSent_delivered_owed (opened : s.session = .opened) (branch : j.branch = b)
    (owed : j.owedTag = some tag) :
    ((s.stopSent b).delivered j st).setEngine b .idle = s.stopJudged b j tag st j.route := by
  subst branch
  have session : (s.stopSent j.branch).session ≠ .closing := by
    rw [State.stopSent, State.setBranch_session, opened]
    decide
  have branch : (s.stopSent j.branch).branch j.branch = (s.branch j.branch).stopped := State.branch_setBranch_self ..
  have left (v : Branch) : State.setBranch
      { s.stopSent j.branch with replies := s.replies ++ endReplies j tag st } j.branch v =
      State.setBranch { s with replies := s.replies ++ endReplies j tag st } j.branch v :=
    State.setBranch_setBranch { s with replies := s.replies ++ endReplies j tag st } j.branch (s.branch j.branch).stopped v
  unfold State.delivered State.stopJudged State.stopAnswered
  simp only [session, false_and, if_false, owed, Nat.add_zero, branch]
  cases j.route with
  | none =>
    refine (congrArg (State.setEngine · j.branch .idle) (left _)).trans ?_
    rw [State.setEngine, State.branch_setBranch_self, State.setBranch_setBranch]
    rfl
  | some r =>
    simp only [State.setEngine_presenceOutcome]
    refine congrArg (State.presenceOutcome · r st j.addressAcked) ?_
    rw [State.setEngine_setRoute]
    refine (congrArg (fun t : State => (t.setEngine j.branch .idle).setRoute r _) (left _)).trans ?_
    rw [State.setEngine, State.branch_setBranch_self, State.setBranch_setBranch]
    rfl

theorem State.stopAnswered_branch (k : BranchId) : (s.stopAnswered b j tag st).branch k =
    if k = b then { s.branch b with
      engine := .idle
      lines := ⟨true, true⟩
      busFree := false
      queue := (s.branch b).queue.filter fun i => i.slot ≠ j.slot } else s.branch k := by
  rw [State.stopAnswered, State.branch_setBranch]
  simp only [eq_comm]
  rfl

end

/-! ### A job that retries -/

/-- The record of a job of the pool is changed as its slot is: no other job has it (R58). -/
theorem PoolLaw.updateJob_own {s : State} (law : PoolLaw s) {j : Job} (hj : j ∈ (s.branch j.branch).queue) (f : Job → Job) :
    s.updateJob j f = s.setBranch j.branch { s.branch j.branch with
      queue := (s.branch j.branch).queue.map fun i => if i.slot = j.slot then f j else i } := by
  have own : (s.branch j.branch).queue.map (fun i => if i.slot = j.slot then f i else i) =
      (s.branch j.branch).queue.map fun i => if i.slot = j.slot then f j else i :=
    List.map_congr_left fun i hi => by
      by_cases same : i.slot = j.slot
      · rw [if_pos same, if_pos same, slots_inj law.slots (State.mem_jobs.2 ⟨_, hi⟩) (State.mem_jobs.2 ⟨_, hj⟩) same]
      · rw [if_neg same, if_neg same]
  rw [State.updateJob, own]

section
variable {s : State} {b : BranchId} {c : Conduct} {j : Job} {r : RouteId} {rc : RouteConfig} {since : Nat}

/-- A first refusal with a retry left (R106). -/
theorem State.fateAtStop_retries (state : j.state = .active) (route : j.route = some r)
    (config : (s.route r).config = some rc) (left : j.attempts < rc.retries) :
    s.fateAtStop j (.firstRefused since) = .retries (since + rc.retryDelay) := by
  simp [State.fateAtStop, Job.fateOfRefusal, Job.endCause, state, State.routeConfigOf, route, config, left]

theorem Conducts.retries (conducts : Conducts s b c j) (phase : c.phase = .stopping (.firstRefused since))
    (state : j.state = .active) (route : j.route = some r) (config : (s.route r).config = some rc)
    (left : j.attempts < rc.retries) : exec (.stoppingDone b) s = .next
      (((((s.stopSent b).updateJob j fun i => i.retrying (since + rc.retryDelay)).settleWaiting r).setEngine b .idle).selectIfIdle
        b) := by
  show execStoppingDone b s = _
  unfold execStoppingDone
  simp only [conducts.conducting, phase, State.fateAtStop_retries state route config left,
    State.settleRouteOf_some route]
  rfl

/-- The job waits in its place, the lines released. -/
theorem Conducts.stopSent_retrying (conducts : Conducts s b c j) (readyAt : Nat) :
    ((s.stopSent b).updateJob j fun i => i.retrying readyAt) = s.setBranch b { s.branch b with
      lines := ⟨true, true⟩
      busFree := false
      queue := (s.branch b).queue.map fun i => if i.slot = j.slot then j.retrying readyAt else i } := by
  have sent := conducts.stopSent
  have branch := sent.branch
  subst branch
  rw [sent.pool.updateJob_own sent.member, State.stopSent, State.setBranch_setBranch, State.branch_setBranch_self]
  rfl

end

/-- Settles O44: the deliveries of an owed job, seen in each table; the retry; and the end of any job. -/
theorem stopEndsTheJobOrRetries : Obligations.StopEndsTheJobOrRetries := by
  refine ⟨fun s b c j why tag st conducts phase origin post opened unheld ends => ?_,
    fun s b c j since r rc conducts phase state route config left => ?_,
    fun s b c j why st conducts phase ends => conducts.stops phase ends⟩
  · have owed : j.owedTag = some tag := by simp [Job.owedTag, origin, post]
    have h : j.CancelOwed := fun _ _ unanswered => by simp [owed] at unanswered
    have runs := conducts.stops phase ends
    rw [State.endOnWires_eq h, State.postedEnds_quiet (fun _ p _ posted => by simp [post] at posted),
      State.watchTakes_host origin] at runs
    have settled : ((s.stopSent b).delivered j st).settleRouteOf j = (s.stopSent b).delivered j st := by
      cases route : j.route with
      | none => exact State.settleRouteOf_none route _
      | some r =>
        rw [State.settleRouteOf_some route,
          State.settleWaiting_none (((s.stopSent b).delivered_waiting j st h r).trans (unheld r route))]
    rw [settled, State.stopSent_delivered_owed opened conducts.branch owed] at runs
    refine ⟨_, runs, ?_⟩
    cases route : j.route with
    | none => exact ⟨rfl, State.stopAnswered_branch, fun _ _ => rfl, nofun, fun _ => rfl, List.prefix_refl _⟩
    | some r =>
      refine ⟨State.presenceOutcome_replies .., fun k => ?_, fun q other => ?_, fun q own => ?_, fun w => ?_, ?_⟩
      · rw [State.branch, show (s.stopJudged b j tag st (some r)).branches = _ from State.presenceOutcome_branches ..]
        exact State.stopAnswered_branch k
      · have other' : r ≠ q := fun same => other (by rw [same])
        refine (State.presenceOutcome_route_other other' ..).trans ((State.route_setRoute ..).trans (if_neg other'))
      · cases own
        exact State.presenceOutcome_route_congr (by simp only [State.route_setRoute_self]) ..
      · rw [State.watch, show (s.stopJudged b j tag st (some r)).watches = _ from State.presenceOutcome_watches ..]
        rfl
      · exact ((s.stopAnswered b j tag st).setRoute r _).notices_prefix_presenceOutcome ..
  · have runs := conducts.retries phase state route config left
    rw [conducts.stopSent_retrying] at runs
    refine ⟨fun unheld => ?_, runs⟩
    rw [State.settleWaiting_none (by exact unheld)] at runs
    exact runs

end Sys2Proof.Machine
end

section
/-! SUPPORT. Late failures of a route with jobs of every origin (R123 to R128): what the purge takes out and what it counts. -/

namespace Sys2Proof.Machine

/-! ### What the purge counts -/

/-- The post number that a purge counts for the job, if it is a posted one (R125). -/
def Job.discardedPost (j : Job) : Option Nat := if j.isHost then j.post else none

/-- The discards after posts counted one after another: the first and the last of them are noted (R125, R127). -/
def Discards.after (d : Discards) (posts : List Nat) : Discards :=
  ⟨min (d.count + posts.length) 255, match d.span, posts.head?, posts.getLast? with
    | .none, some first, some last => some (first, last)
    | some (first, _), some _, some last => some (first, last)
    | span, _, _ => span⟩

theorem Discards.after_cons (d : Discards) (post : Nat) (posts : List Nat) :
    (d.add post).after posts = d.after (post :: posts) := by
  have count : min (min (d.count + 1) 255 + posts.length) 255 = min (d.count + (posts.length + 1)) 255 := by omega
  obtain ⟨n, span⟩ := d
  unfold Discards.after Discards.add
  cases posts with
  | nil => cases span <;> simp [bump, Config.countMax]
  | cons p posts => cases span <;> simpa [bump, Config.countMax, List.getLast?_cons] using count

/-- Discards counted from none. -/
theorem Discards.after_none {posts : List Nat} (few : posts.length ≤ 255) : Discards.after ⟨0, .none⟩ posts =
    ⟨posts.length, match posts.head?, posts.getLast? with
      | some first, some last => some (first, last)
      | _, _ => .none⟩ := by
  have count : min (0 + posts.length) 255 = posts.length := by omega
  unfold Discards.after
  rw [count]
  cases posts with
  | nil => rfl
  | cons post posts => rw [List.getLast?_cons]; rfl

theorem foldl_add_after : ∀ (posts : List Nat) {d : Discards}, d.count ≤ 255 → posts.foldl Discards.add d = d.after posts
  | [], ⟨n, span⟩, few => by
    have count : min n 255 = n := Nat.min_eq_left few
    cases span <;> simp [Discards.after, count]
  | post :: posts, d, _ => by
    rw [List.foldl_cons, foldl_add_after posts (Nat.min_le_right ..), Discards.after_cons]

theorem purgeOne_snd (acc : State × Discards) (j : Job) :
    (purgeOne acc j).2 = (j.discardedPost.toList).foldl Discards.add acc.2 := by
  unfold purgeOne Job.discardedPost Job.isHost Job.isPoll
  cases origin : j.origin <;> cases post : j.post <;> rfl

theorem foldl_purgeOne_snd : ∀ (l : List Job) (acc : State × Discards),
    (l.foldl purgeOne acc).2 = (l.filterMap Job.discardedPost).foldl Discards.add acc.2
  | [], _ => rfl
  | j :: l, acc => by
    rw [List.foldl_cons, foldl_purgeOne_snd l, purgeOne_snd, List.filterMap_cons]
    cases j.discardedPost <;> rfl

/-! ### What the purge takes out -/

/-- The replies of a job that ends ROUTE_HELD as its route is purged. -/
def Job.heldReplies (j : Job) : List Frame :=
  match j.owedTag with
  | none => []
  | some tag => endReplies j.withoutProgress tag .routeHeld

/-- The jobs have been purged: they have left the pool, and the owed ones have been answered (R125). -/
structure Purged (l : List Job) (s t : State) : Prop where
  taken : TakenOut l s t
  holds : ∀ r, (t.route r).hold = (s.route r).hold
  frame : t = { s with
    replies := s.replies ++ l.flatMap Job.heldReplies
    routes := t.routes
    branches := t.branches
    watches := t.watches }

theorem Purged.nil (s : State) : Purged [] s s := ⟨.nil s, fun _ => rfl, by simp⟩

theorem Purged.trans {l m : List Job} {s t u : State} (h : Purged l s t) (k : Purged m t u) : Purged (l ++ m) s u := by
  refine ⟨h.taken.trans k.taken, fun r => (k.holds r).trans (h.holds r), ?_⟩
  rw [k.frame, h.frame]
  simp

/-- A job that owes no reply is purged. -/
theorem Purged.removeJob {j : Job} (silent : j.heldReplies = []) (s : State) : Purged [j] s (s.removeJob j) :=
  ⟨.removeJob s j, s.removeJob_hold j, (s.removeJob_eq j).trans (by simp [silent])⟩

theorem State.purgeJob_purged (s : State) {j : Job} (cancel : j.cancelTag = none) : Purged [j] s (s.purgeJob j) := by
  cases origin : j.origin with
  | watch w =>
    have purges : s.purgeJob j = s.removeJob j := by simp only [State.purgeJob, purgeOne, origin]
    rw [purges]
    exact .removeJob (by simp [Job.heldReplies, Job.owedTag, origin]) s
  | host tag =>
    cases post : j.post with
    | some p =>
      have purges : s.purgeJob j = s.removeJob j := by simp only [State.purgeJob, purgeOne, origin, post]
      rw [purges]
      exact .removeJob (by simp [Job.heldReplies, Job.owedTag, origin, post]) s
    | none =>
      have purges : s.purgeJob j = { s.leave j with replies := s.replies ++ j.heldReplies } := by
        simp only [State.purgeJob, purgeOne, origin, post]
        exact s.deliver_neutral j.withoutProgress (fun _ _ _ => cancel) rfl
      rw [purges]
      refine ⟨.congr (.leave (by simp [Job.isHost, Job.isPoll, origin])) rfl rfl fun _ => rfl, s.leave_hold j, ?_⟩
      rw [State.leave_eq]
      simp

theorem foldl_purgeJob_purged : ∀ (l : List Job) (s : State), (∀ j ∈ l, j.cancelTag = none) →
    Purged l s (l.foldl State.purgeJob s)
  | [], s, _ => .nil s
  | j :: l, s, cancel => (s.purgeJob_purged (cancel j List.mem_cons_self)).trans
      (foldl_purgeJob_purged l _ fun i hi => cancel i (List.mem_cons_of_mem _ hi))

/-! ### The pool after jobs have left -/

/-- Jobs picked out of every queue are picked out of the pool. -/
theorem State.jobs_filter {s t : State} {p : Job → Bool} (h : ∀ b, (t.branch b).queue = (s.branch b).queue.filter p) :
    t.jobs = s.jobs.filter p := by
  rw [State.jobs_eq, State.jobs_eq, List.filter_flatMap]
  exact List.flatMap_congr fun b _ => h b

/-- The jobs of the pool once one has left. -/
theorem PoolLaw.leave_jobs {s : State} (law : PoolLaw s) {j : Job} (hj : j ∈ s.jobs) :
    (s.leave j).jobs = s.jobs.filter fun i => i.slot ≠ j.slot := by
  refine State.jobs_filter fun b => ?_
  rw [(s.leave_loses j).queue_filter b]
  refine List.filter_congr fun i hi => ?_
  by_cases same : i.slot = j.slot
  · have own : i = j := slots_inj law.slots (State.mem_jobs.2 ⟨b, hi⟩) hj same
    simp [namesSlot, ← own, law.placed b i hi]
  · simp [namesSlot, same, Ne.symm same]

/-! ### A late failure carried out -/

section
variable (s : State) (r : RouteId)

/-- The jobs of the route in the pool. -/
def State.jobsOf : List Job := s.jobs.filter fun i => decide (i.route = some r)

/-- The discards once the posted jobs of the route have been counted after those of `d` (R125, R127). -/
def State.purgeDiscards (d : Discards) : Discards := d.after ((s.jobsOf r).filterMap Job.discardedPost)

/-- The state as the route is held and purged, its notice not offered yet. -/
def State.heldAndPurged (f : FailedPost) (d : Discards) : State :=
  let u := (s.jobsOf r).foldl State.purgeJob
    (s.setRoute r { s.route r with hold := some ⟨f.post, f.status, 0⟩, waiting := none })
  u.setRoute r { u.route r with hold := some ⟨f.post, f.status, d.count⟩ }

variable {s r}

theorem State.carryOut_eq (f : FailedPost) {d : Discards} (few : d.count ≤ 255) : s.carryOut r f d =
    (s.heldAndPurged r f (s.purgeDiscards r d)).offer (.lateFault r f (s.purgeDiscards r d)) := by
  have counts (v : Route) : ((s.setRoute r v).purge r d).2 = s.purgeDiscards r d := by
    rw [State.purge, foldl_purgeOne_snd, foldl_add_after _ few]
    rfl
  unfold State.carryOut State.heldAndPurged
  simp only [counts, State.purge_fst]
  rfl

variable {f : FailedPost} {d : Discards} (cancel : ∀ i ∈ s.jobs, i.route = some r → i.cancelTag = none)
include cancel

theorem State.heldAndPurged_purges : Purged (s.jobsOf r)
    (s.setRoute r { s.route r with hold := some ⟨f.post, f.status, 0⟩, waiting := none })
    ((s.jobsOf r).foldl State.purgeJob
      (s.setRoute r { s.route r with hold := some ⟨f.post, f.status, 0⟩, waiting := none })) :=
  foldl_purgeJob_purged _ _ fun i hi => by
    obtain ⟨member, route⟩ := List.mem_filter.1 hi
    exact cancel i member (of_decide_eq_true route)

theorem State.heldAndPurged_eq : s.heldAndPurged r f d = { s with
    replies := s.replies ++ (s.jobsOf r).flatMap Job.heldReplies
    routes := (s.heldAndPurged r f d).routes
    branches := (s.heldAndPurged r f d).branches
    watches := (s.heldAndPurged r f d).watches } := by
  have frame := (State.heldAndPurged_purges cancel (f := f)).frame
  unfold State.heldAndPurged
  simp only
  rw [frame]
  rfl

theorem State.heldAndPurged_route : (s.heldAndPurged r f d).route r = { s.route r with
    hold := some ⟨f.post, f.status, d.count⟩
    waiting := none
    jobs := (s.route r).jobs - (s.jobsOf r).length } := by
  have all : (s.jobsOf r).countP (fun j => decide (j.route = some r)) = (s.jobsOf r).length :=
    List.countP_eq_length.2 fun i hi => (List.mem_filter.1 hi).2
  unfold State.heldAndPurged
  simp only
  rw [State.route_setRoute_self, (State.heldAndPurged_purges cancel).taken.routes r, State.route_setRoute_self, all]

theorem State.heldAndPurged_route_other {q : RouteId} (other : q ≠ r) : (s.heldAndPurged r f d).route q = s.route q := by
  have none : (s.jobsOf r).countP (fun j => decide (j.route = some q)) = 0 :=
    List.countP_eq_zero.2 fun i hi => by
      rw [of_decide_eq_true (List.mem_filter.1 hi).2]
      simpa using other.symm
  have purges := State.heldAndPurged_purges cancel (f := f)
  unfold State.heldAndPurged
  simp only
  rw [State.route_setRoute, if_neg other.symm, purges.taken.routes q, purges.holds q, State.route_setRoute,
    if_neg other.symm, none]
  rfl

theorem State.heldAndPurged_branch (law : PoolLaw s) (b : BranchId) : (s.heldAndPurged r f d).branch b =
    { s.branch b with queue := (s.branch b).queue.filter fun i => decide (i.route ≠ some r) } := by
  refine ((State.heldAndPurged_purges cancel).taken.branches b).trans ?_
  have queue : ((s.branch b).queue.filter fun i => !namesSlot (s.jobsOf r) b i.slot) =
      (s.branch b).queue.filter fun i => decide (i.route ≠ some r) :=
    List.filter_congr fun i hi => by rw [State.jobsOf, law.namesSlot_filter _ hi, decide_not]
  exact congrArg (fun q => { s.branch b with queue := q }) queue

theorem State.heldAndPurged_watch (w : WatchId) : (s.heldAndPurged r f d).watch w = { s.watch w with
    pollOut := (s.watch w).pollOut && !(s.jobsOf r).any fun i => decide (i.origin = .watch w) } :=
  (State.heldAndPurged_purges cancel).taken.watches w

variable (few : d.count ≤ 255)
include few

/-- What carrying out a late failure changes besides the tables: the replies, and then the offer (R124, R125). -/
theorem State.carryOut_afterOffer : s.carryOut r f d = State.afterOffer { s with
    replies := s.replies ++ (s.jobsOf r).flatMap Job.heldReplies
    routes := (s.carryOut r f d).routes
    branches := (s.carryOut r f d).branches
    watches := (s.carryOut r f d).watches } (.lateFault r f (s.purgeDiscards r d)) := by
  rw [State.carryOut_eq f few, State.offer_routes, State.offer_branches, State.offer_watches, State.offer_afterOffer]
  exact congrArg (State.afterOffer · _) (State.heldAndPurged_eq cancel)

theorem State.carryOut_replies : (s.carryOut r f d).replies = s.replies ++ (s.jobsOf r).flatMap Job.heldReplies := by
  rw [State.carryOut_eq f few, State.offer_replies, State.heldAndPurged_eq cancel]

theorem State.carryOut_notices :
    (s.carryOut r f d).notices = noticesAfterOffer s (.lateFault r f (s.purgeDiscards r d)) := by
  rw [State.carryOut_eq f few, State.offer_notices, State.heldAndPurged_eq cancel]
  rfl

theorem State.carryOut_route : (s.carryOut r f d).route r = { s.route r with
    hold := some ⟨f.post, f.status, (s.purgeDiscards r d).count⟩
    waiting := none
    jobs := (s.route r).jobs - (s.jobsOf r).length } := by
  rw [State.carryOut_eq f few, State.route, State.offer_routes]
  exact State.heldAndPurged_route cancel

theorem State.carryOut_route_other {q : RouteId} (other : q ≠ r) : (s.carryOut r f d).route q = s.route q := by
  rw [State.carryOut_eq f few, State.route, State.offer_routes]
  exact State.heldAndPurged_route_other cancel other

theorem State.carryOut_branch (law : PoolLaw s) (b : BranchId) : (s.carryOut r f d).branch b =
    { s.branch b with queue := (s.branch b).queue.filter fun i => decide (i.route ≠ some r) } := by
  rw [State.carryOut_eq f few, State.branch, State.offer_branches]
  exact State.heldAndPurged_branch cancel law b

theorem State.carryOut_watch (w : WatchId) : (s.carryOut r f d).watch w = { s.watch w with
    pollOut := (s.watch w).pollOut && !(s.jobsOf r).any fun i => decide (i.origin = .watch w) } := by
  rw [State.carryOut_eq f few, State.watch, State.offer_watches]
  exact State.heldAndPurged_watch cancel w

/-- The jobs of the other routes are left. -/
theorem State.carryOut_jobs (law : PoolLaw s) :
    (s.carryOut r f d).jobs = s.jobs.filter fun i => decide (i.route ≠ some r) :=
  State.jobs_filter fun b => congrArg Branch.queue (State.carryOut_branch cancel few law b)

end

end Sys2Proof.Machine
end

section
/-! SUPPORT. A posted job whose deadline runs out while it waits (R69, R123 to R128). -/

namespace Sys2Proof.Machine

section
variable {s : State} {j : Job} {tag : Byte} {post : Nat} {r : RouteId}

/-- A posted job that waits ends at its deadline with its late failure. -/
theorem State.endJob_postedDeadline (opened : s.session = .opened) (origin : j.origin = .host tag)
    (posts : j.post = some post) (route : j.route = some r) (cancel : j.cancelTag = none) :
    s.endJob j.withoutProgress .deadline = (s.leave j).lateFailure r ⟨tag, post, .deadline, 0⟩ := by
  have silent : j.withoutProgress.deliveries .deadline = [] := by
    simp [Job.deliveries, Job.owedTag, Job.withoutProgress, origin, posts]
  have delivers : s.deliver j.withoutProgress .deadline = s.leave j := by
    rw [s.deliver_neutral j.withoutProgress (fun _ _ _ => cancel) rfl, silent, List.append_nil, State.leave_eq,
      State.leave_eq s j]
    rfl
  have session : (s.leave j).session = .opened := by
    rw [State.leave_eq]
    exact opened
  rw [State.endJob, State.endDelivered, State.countCloseEnd_not_closing (by rw [opened]; decide), delivers,
    State.watchTakes_host (j := j.withoutProgress) origin,
    State.postedEnds_fails (j := j.withoutProgress) origin posts route (by decide), if_pos session]
  rfl

/-- The late failure of a route with a job on the wires waits, or is merged into the one that waits (R127). -/
theorem State.lateFailure_busy (busy : s.routeOnWires r = true) (f : FailedPost) :
    s.lateFailure r f = s.setRoute r { s.route r with
      waiting := match (s.route r).waiting with
        | none => some ⟨f, ⟨0, none⟩⟩
        | some w => some ⟨w.failed, w.merged.add f.post⟩ } := by
  unfold State.lateFailure
  simp only [busy, if_true]
  cases (s.route r).waiting <;> rfl

end

section
variable {s : State} {j : Job} (law : PoolLaw s) (hj : j ∈ s.jobs)
include law hj

/-- The other jobs of the route, once the failed one has left. -/
theorem PoolLaw.leave_jobsOf (r : RouteId) : (s.leave j).jobsOf r =
    s.jobs.filter fun i => decide (i.route = some r) && decide (i.slot ≠ j.slot) := by
  rw [State.jobsOf, law.leave_jobs hj, List.filter_filter]

/-- With the failed job and then those of its route gone, the jobs of the other routes are left. -/
theorem PoolLaw.leave_jobs_others {r : RouteId} (route : j.route = some r) :
    ((s.leave j).jobs.filter fun i => decide (i.route ≠ some r)) = s.jobs.filter fun i => decide (i.route ≠ some r) := by
  rw [law.leave_jobs hj, List.filter_filter]
  refine List.filter_congr fun i hi => ?_
  by_cases same : i.slot = j.slot
  · simp [slots_inj law.slots hi hj same, route]
  · simp [same]

theorem PoolLaw.leave_mem {i : Job} (hi : i ∈ (s.leave j).jobs) : i ∈ s.jobs ∧ i.slot ≠ j.slot := by
  rw [law.leave_jobs hj] at hi
  simpa using hi

/-- Whether the failed job leaves a job of its route on the wires. -/
theorem PoolLaw.leave_routeOnWires (r : RouteId) : (s.leave j).routeOnWires r =
    (s.jobs.filter fun i => decide (i.route = some r) && decide (i.slot ≠ j.slot)).any Job.onWires := by
  rw [← law.leave_jobsOf hj, State.jobsOf, State.routeOnWires, List.any_filter]

end

/-- The failed job has left, and its failure waits with its route. -/
theorem State.leave_setWaiting (s : State) {j : Job} {r : RouteId} (route : j.route = some r)
    (waiting : Option WaitingFailure) :
    (s.leave j).setRoute r { (s.leave j).route r with waiting := waiting } =
      (s.dropJob j).setRoute r { s.route r with jobs := (s.route r).jobs - 1, waiting := waiting } := by
  rw [State.leave_route, if_pos route]
  unfold State.leave
  rw [route]
  exact State.setRoute_setRoute ..

/-- The discards of a posted job that fails while it waits: the other posted jobs of its route (R125, R128). -/
theorem PoolLaw.leave_purgeDiscards {s : State} (law : PoolLaw s) {j : Job} (hj : j ∈ s.jobs) {r : RouteId} {posts : List Nat}
    (counted : (s.jobs.filter fun i => decide (i.route = some r) && decide (i.slot ≠ j.slot)).filterMap Job.discardedPost =
      posts) : (s.leave j).purgeDiscards r ⟨0, none⟩ = ⟨posts.length, match posts.head?, posts.getLast? with
        | some first, some last => some (first, last)
        | _, _ => none⟩ := by
  have few : posts.length ≤ 255 := by
    rw [← counted]
    exact (List.length_filterMap_le ..).trans ((List.length_filter_le ..).trans (law.length_le.trans (by decide)))
  rw [State.purgeDiscards, law.leave_jobsOf hj, counted, Discards.after_none few]

/-- Settles O48: the jobs of the route as the failed one has left it, and the purge of jobs of every origin. -/
theorem lateFailureHoldsTheRoute : Obligations.LateFailureHoldsTheRoute := by
  refine ⟨fun s j tag post r atBoundary law opened hj origin posts route cancel waits due => ?_,
    fun s r f d law opened few free => ?_⟩
  · have runs := exec_jobDeadlineExpires_waiting law hj rfl due waits atBoundary
    rw [State.endJob_postedDeadline opened origin posts route cancel] at runs
    intro others postNumbers failed
    have wires := law.leave_routeOnWires hj r
    refine ⟨fun busy => ?_, fun free unheld => ⟨_, runs, ?_⟩⟩
    · have onWires : (s.leave j).routeOnWires r = true := wires.trans (List.any_eq_true.2 busy)
      rw [runs, State.lateFailure_busy onWires, State.leave_setWaiting s route, State.leave_route]
      rfl
    · have left := law.leave_jobsOf hj r
      have pool : PoolLaw (s.leave j) := (TakenOut.leave (by simp [Job.isHost, Job.isPoll, origin])).pool law
      have quiet : (s.leave j).routeOnWires r = false :=
        wires.trans (List.any_eq_false.2 fun i hi => by simp [(free i hi).1])
      have unwaiting : ((s.leave j).route r).waiting = none := by
        rw [State.leave_route]
        exact unheld
      have cancels : ∀ i ∈ (s.leave j).jobs, i.route = some r → i.cancelTag = none := fun i hi routed => by
        obtain ⟨member, other⟩ := law.leave_mem hj hi
        exact (free i (List.mem_filter.2 ⟨member, by simp [routed, other]⟩)).2
      have counted : (s.leave j).purgeDiscards r ⟨0, none⟩ = _ := law.leave_purgeDiscards hj (posts := postNumbers) rfl
      have none255 : (⟨0, none⟩ : Discards).count ≤ 255 := Nat.zero_le _
      rw [State.lateFailure_free quiet, Route.discardsAhead_none unwaiting]
      refine ⟨?_, ?_, ?_, ?_, fun w poll => ?_, fun q other => ?_⟩
      · rw [State.carryOut_route cancels none255, counted]
      · rw [State.carryOut_jobs cancels none255 pool, law.leave_jobs_others hj route]
      · rw [State.carryOut_replies cancels none255, left, State.leave_eq]
        rfl
      · rw [State.carryOut_notices cancels none255, counted, State.leave_eq]
        rfl
      · rw [State.carryOut_watch cancels none255, left]
        have polled : others.any (fun i => decide (i.origin = .watch w)) = true := by simpa using poll
        exact (congrArg (fun x => ((s.leave j).watch w).pollOut && !x) polled).trans (Bool.and_false _)
      · rw [State.carryOut_route_other cancels none255 other, State.leave_route, route, if_neg (by simpa using other.symm)]
        rfl
  · have cancel : ∀ i ∈ s.jobs, i.route = some r → i.cancelTag = none := fun i hi routed => (free i hi routed).2
    exact ⟨State.carryOut_afterOffer cancel few, State.carryOut_route cancel few,
      fun q other => State.carryOut_route_other cancel few other, State.carryOut_branch cancel few law,
      State.carryOut_watch cancel few⟩

end Sys2Proof.Machine
end

section
/-! SUPPORT. What the end of a job leaves to the engine that conducted it: the time, and of every branch all but its queue;
and what the engine then enters (R89, R101, R103, R104, R108, R109). -/

namespace Sys2Proof.Machine

/-! ### Of the branches only the queues change -/

/-- The time is the same, and so is every branch but for its queue. -/
structure OnlyQueues (s t : State) : Prop where
  now : t.now = s.now
  branch : ∀ k, t.branch k = { s.branch k with queue := (t.branch k).queue }

theorem OnlyQueues.refl (s : State) : OnlyQueues s s := ⟨rfl, fun _ => rfl⟩

theorem OnlyQueues.trans {s t u : State} (h : OnlyQueues s t) (k : OnlyQueues t u) : OnlyQueues s u :=
  ⟨k.now.trans h.now, fun b => by rw [k.branch b, h.branch b]⟩

theorem OnlyQueues.of_branches {s t : State} (rest : t.rest = s.rest) (h : t.branches = s.branches) : OnlyQueues s t :=
  ⟨(State.rest_fields rest).1, fun k => by rw [State.branch, h]; rfl⟩

/-- A job that leaves its queue. -/
theorem State.Loses.onlyQueues {s t : State} {j : Job} (h : s.Loses j t) (rest : t.rest = s.rest) : OnlyQueues s t :=
  ⟨(State.rest_fields rest).1, fun k => by rw [h k]; split <;> rfl⟩

theorem OnlyQueues.foldl {f : State → Job → State} (h : ∀ s j, OnlyQueues s (f s j)) :
    ∀ (l : List Job) (s : State), OnlyQueues s (l.foldl f s)
  | [], s => .refl s
  | j :: l, s => (h s j).trans (OnlyQueues.foldl h l (f s j))

section
variable (s : State)

theorem State.setRoute_onlyQueues (r : RouteId) (v : Route) : OnlyQueues s (s.setRoute r v) := .of_branches rfl rfl

theorem State.updateJob_onlyQueues (j : Job) (f : Job → Job) : OnlyQueues s (s.updateJob j f) :=
  ⟨rfl, fun k => by rw [State.branch_updateJob]; split <;> rfl⟩

theorem State.purgeJob_onlyQueues (j : Job) : OnlyQueues s (s.purgeJob j) :=
  (s.purgeJob_loses j).onlyQueues (purgeOne_rest ..)

/-- A late failure carried out takes jobs out of their queues (R124, R125). -/
theorem State.carryOut_onlyQueues (r : RouteId) (f : FailedPost) (d : Discards) : OnlyQueues s (s.carryOut r f d) := by
  have purges (t : State) : OnlyQueues t (t.purge r d).1 := by
    rw [State.purge_fst]
    exact .foldl State.purgeJob_onlyQueues ..
  exact (((s.setRoute_onlyQueues ..).trans (purges _)).trans (State.setRoute_onlyQueues ..)).trans
    (.of_branches (State.offer_rest ..) (State.offer_branches ..))

theorem State.lateFailure_onlyQueues (r : RouteId) (f : FailedPost) : OnlyQueues s (s.lateFailure r f) := by
  unfold State.lateFailure
  simp only
  split
  · exact s.setRoute_onlyQueues ..
  · exact s.carryOut_onlyQueues ..

theorem State.settleWaiting_onlyQueues (r : RouteId) : OnlyQueues s (s.settleWaiting r) := by
  unfold State.settleWaiting
  split
  · exact .refl s
  · split
    · exact .refl s
    · split
      · exact s.carryOut_onlyQueues ..
      · exact .of_branches rfl rfl

theorem State.settleRouteOf_onlyQueues (j : Job) : OnlyQueues s (s.settleRouteOf j) := by
  cases route : j.route with
  | none => rw [State.settleRouteOf_none route]; exact .refl s
  | some r => rw [State.settleRouteOf_some route]; exact s.settleWaiting_onlyQueues r

theorem State.postedEnds_onlyQueues (j : Job) (st : Status) : OnlyQueues s (s.postedEnds j st) := by
  unfold State.postedEnds
  split
  · split
    · exact .refl s
    · split
      · exact s.lateFailure_onlyQueues ..
      · exact .of_branches rfl rfl
  · exact .refl s

theorem State.pollEnds_branches (w : WatchId) (st : Status) (value : List Byte) :
    (s.pollEnds w st value).branches = s.branches := by
  unfold State.pollEnds
  simp only
  split
  · rfl
  · split
    · exact State.comparePoll_branches ..
    · rfl

theorem State.watchTakes_onlyQueues (j : Job) (st : Status) : OnlyQueues s (s.watchTakes j st) := by
  cases origin : j.origin with
  | host tag => rw [State.watchTakes_host origin]; exact .refl s
  | watch w =>
    rw [State.watchTakes_watch origin]
    exact .of_branches (State.pollEnds_rest ..) (State.pollEnds_branches ..)

theorem State.countCloseEnd_onlyQueues (j : Job) (st : Status) : OnlyQueues s (s.countCloseEnd j st) := by
  rw [State.countCloseEnd_eq]
  exact .of_branches rfl rfl

/-- The end of the job on the wires leaves the lines and the engine to the caller (R73). -/
theorem State.endOnWires_onlyQueues (j : Job) (st : Status) : OnlyQueues s (s.endOnWires j st) :=
  ((((s.countCloseEnd_onlyQueues j st).trans ((State.deliver_loses _ j st).onlyQueues (State.deliver_rest ..))).trans
    (State.postedEnds_onlyQueues _ j st)).trans (State.settleRouteOf_onlyQueues _ j)).trans
    (State.watchTakes_onlyQueues _ j st)

end

/-! ### The engine waits for the bus, or begins a recovery -/

section
variable {s t : State} {b : BranchId}

/-- With the data line held low under a high clock, WAIT_FREE times the data line (R89, R101). -/
theorem State.enterWaitFree_dataLow (lines : (s.branch b).lines = ⟨true, false⟩) : s.enterWaitFree b =
    s.setBranch b { s.branch b with engine := .waitFree (some ⟨.data, ⟨s.now, (s.branch b).config.stretchLimit⟩⟩) } := by
  rw [State.enterWaitFree, lines]
  rfl

/-- With the data line held low under a high clock, a recovery begins with its first pulse (R109; log 14). -/
theorem State.enterRecovery_dataLow (lines : (s.branch b).lines = ⟨true, false⟩) (cause : RecoveryCause) :
    s.enterRecovery b cause = s.setBranch b { s.branch b with
      lines := ⟨false, false⟩
      busFree := false
      engine := .recovering ⟨cause, .pulsing, 0, some ⟨s.now, (s.branch b).config.stretchLimit⟩, none⟩ } := by
  simp only [State.enterRecovery, lines, Branch.recoverUnderHighClock, Branch.pullsClock]
  rfl

/-- With the clock line low a recovery waits in RELEASE (R109). -/
theorem State.enterRecovery_clockLow (low : (s.branch b).lines.clockHigh = false) (cause : RecoveryCause) :
    s.enterRecovery b cause = s.setBranch b { s.branch b with
      engine := .recovering ⟨cause, .release, 0, some ⟨s.now, (s.branch b).config.stretchLimit⟩, none⟩ } := by
  simp only [State.enterRecovery, low]
  rfl

end

end Sys2Proof.Machine
end

section
/-! SUPPORT. The end on the wires of an owed job whose route has no failure waiting, table by table (R73, R74, R78); and
STRETCH_INTERVAL_EXPIRES (R94, R96, R108). -/

namespace Sys2Proof.Machine

/-! ### The deliveries, table by table -/

section
variable {s : State} {j : Job} {tag : Byte} {st : Status}

theorem Job.owedTag_host (origin : j.origin = .host tag) (post : j.post = none) : j.owedTag = some tag := by
  simp [Job.owedTag, origin, post]

theorem Job.CancelOwed.of_owed (owed : j.owedTag = some tag) : j.CancelOwed := fun _ _ unanswered => by
  simp [owed] at unanswered

theorem State.delivered_replies (owed : j.owedTag = some tag) :
    (s.delivered j st).replies = s.replies ++ endReplies j tag st := by
  unfold State.delivered
  cases j.route <;> simp [owed]

/-- The job leaves its queue. -/
theorem State.delivered_loses (h : j.CancelOwed) : s.Loses j (s.delivered j st) := by
  have counted (k : BranchId) : (s.countCloseEnd j st).branch k = s.branch k := by
    rw [State.countCloseEnd_eq]
    rfl
  intro k
  rw [← s.deliver_delivered j st h, State.branch_deliver, counted]

/-- The route of the job has one job fewer and takes the outcome; no other route changes. -/
theorem State.delivered_route (r : RouteId) : (s.delivered j st).route r =
    if j.route = some r then
      (State.presenceOutcome (s.setRoute r { s.route r with jobs := (s.route r).jobs - 1 }) r st j.addressAcked).route r
    else s.route r := by
  unfold State.delivered
  cases j.route with
  | none => rfl
  | some q =>
    by_cases own : q = r
    · subst own
      refine Eq.trans ?_ (if_pos rfl).symm
      exact State.presenceOutcome_route_congr (by simp only [State.route_setRoute_self]) ..
    · refine Eq.trans ?_ (if_neg fun same => own (Option.some.inj same)).symm
      refine (State.presenceOutcome_route_other own ..).trans ((State.route_setRoute ..).trans ?_)
      exact if_neg own

end

/-! ### An owed job, its route having no failure waiting -/

theorem State.settleRouteOf_unheld {s : State} {j : Job}
    (unheld : ∀ r, j.route = some r → (s.route r).waiting = none) : s.settleRouteOf j = s := by
  cases route : j.route with
  | none => exact State.settleRouteOf_none route s
  | some r => rw [State.settleRouteOf_some route, State.settleWaiting_none (unheld r route)]

section
variable {s : State} {b : BranchId} {v : Branch} {j : Job} {tag : Byte} {st : Status}
variable (owed : j.owedTag = some tag) (unheld : ∀ r, j.route = some r → (s.route r).waiting = none)
include owed unheld

theorem State.endOnWires_owed : s.endOnWires j st = s.delivered j st := by
  have h : j.CancelOwed := .of_owed owed
  obtain ⟨host, origin, post⟩ := Job.owed_not_posted (j := j) (by simp [owed])
  rw [State.endOnWires_eq h, State.postedEnds_quiet (fun _ _ _ posted => by simp [post] at posted),
    State.watchTakes_host origin]
  exact State.settleRouteOf_unheld fun r route => (s.delivered_waiting j st h r).trans (unheld r route)

theorem State.endOnWires_owed_replies : (s.endOnWires j st).replies = s.replies ++ endReplies j tag st := by
  rw [State.endOnWires_owed owed unheld, State.delivered_replies owed]

theorem State.endOnWires_owed_route (r : RouteId) : ((s.setBranch b v).endOnWires j st).route r =
    if j.route = some r then
      (State.presenceOutcome (s.setRoute r { s.route r with jobs := (s.route r).jobs - 1 }) r st j.addressAcked).route r
    else s.route r := by
  rw [State.endOnWires_owed (s := s.setBranch b v) owed unheld, State.delivered_route]
  split
  · exact State.presenceOutcome_route_congr (by simp only [State.route_setRoute_self, State.setBranch_route]) ..
  · rfl

variable (branch : j.branch = b)
include branch

/-- The end of the job, with its branch at `v` before and set to `w` after. -/
theorem State.endOnWires_owed_branches (w : Branch → Branch) (k : BranchId) :
    (((s.setBranch b v).endOnWires j st).setBranch b (w (((s.setBranch b v).endOnWires j st).branch b))).branch k =
      if k = b then w { v with queue := v.queue.filter fun i => i.slot ≠ j.slot } else s.branch k := by
  subst branch
  have loses := State.delivered_loses (s := s.setBranch j.branch v) (st := st) (.of_owed owed)
  rw [State.endOnWires_owed (s := s.setBranch j.branch v) owed unheld, State.branch_setBranch, loses, if_pos rfl,
    State.branch_setBranch_self]
  by_cases own : k = j.branch
  · rw [if_pos own.symm, if_pos own]
  · rw [if_neg (Ne.symm own), if_neg own, loses, if_neg (Ne.symm own), State.branch_setBranch, if_neg (Ne.symm own)]

end

/-! ### The stretch interval -/

theorem Interval.due_iff {i : Interval} {now : Nat} : i.due now = true ↔ i.since + i.limit ≤ now := by simp [Interval.due]

/-- Of the job only READ_DATA takes the byte received (R94). -/
theorem Job.withReceived_eq (j : Job) (p : Phase) (received : Option Byte) :
    ∃ data, j.withReceived p received = { j with readData := data } := by
  unfold Job.withReceived
  split
  · exact ⟨_, rfl⟩
  all_goals exact ⟨j.readData, rfl⟩

theorem Job.withReceived_match (j : Job) (p : Phase) (received : Option Byte) :
    (match p, received with
      | .reading _, some x => { j with readData := j.readData ++ [x] }
      | _, _ => j) = j.withReceived p received := by
  cases p <;> cases received <;> rfl

section
variable {s : State} {b : BranchId} {c : Conduct} {j : Job} {i : Interval}

/-- The clock line held low by another party, the data line released (R96). -/
def State.stretched (s : State) (b : BranchId) (dataHigh : Bool) : State :=
  s.setBranch b { s.branch b with lines := ⟨false, dataHigh⟩, busFree := false }

theorem Branch.see_clockLow (br : Branch) (dataHigh : Bool) :
    br.see ⟨false, dataHigh⟩ = { br with lines := ⟨false, dataHigh⟩, busFree := false } := by
  simp [Branch.see]

/-- The job ends, and the recovery waits in RELEASE. -/
theorem Conducts.stretchExpires (conducts : Conducts s b c j) (stretch : c.stretch = some i)
    (due : i.since + i.limit ≤ s.now) (seen : StretchEnd) :
    let t := (s.stretched b seen.dataHigh).endOnWires (j.withReceived c.phase seen.received) .stretchTimeout
    exec (.stretchIntervalExpires b seen) s = .next (t.setBranch b { t.branch b with
      engine := .recovering ⟨.stretchTimeout, .release, 0, some ⟨s.now, (s.branch b).config.stretchLimit⟩, none⟩ }) := by
  intro t
  have runs : exec (.stretchIntervalExpires b seen) s = .next (t.enterRecovery b .stretchTimeout) := by
    show execStretchIntervalExpires b seen s = _
    simp only [execStretchIntervalExpires, conducts.conducting, stretch, Interval.due_iff.2 due, Branch.see_clockLow]
    rfl
  have keeps : OnlyQueues (s.stretched b seen.dataHigh) t := State.endOnWires_onlyQueues ..
  have branch := keeps.branch b
  rw [State.stretched, State.branch_setBranch_self] at branch
  have config : (t.branch b).config = (s.branch b).config := by rw [branch]
  rw [runs, State.enterRecovery_clockLow (by rw [branch]), config, show t.now = s.now from keeps.now]

end

/-- Settles O46: the end of the job is `State.endOnWires`, which for an owed job with no failure waiting is its deliveries. -/
theorem stretchTimeoutEndsTheJob : Obligations.StretchTimeoutEndsTheJob := by
  refine ⟨fun s b c j i tag seen conducts stretch due origin post opened unheld => ?_,
    fun s b c j i seen conducts stretch due => ?_⟩
  · intro full
    have received : full = j.withReceived c.phase seen.received := j.withReceived_match ..
    clear_value full
    have ends := conducts.stretchExpires stretch due seen
    rw [← received] at ends
    obtain ⟨data, kept⟩ := j.withReceived_eq c.phase seen.received
    rw [← received] at kept
    subst kept
    have owed : Job.owedTag { j with readData := data } = some tag := Job.owedTag_host origin post
    refine ⟨_, ends, ?_, fun k => ?_, fun r => ?_⟩
    · exact State.endOnWires_owed_replies (s := s.stretched b seen.dataHigh) owed unheld
    · exact State.endOnWires_owed_branches (s := s) owed unheld conducts.branch (fun br => { br with
        engine := .recovering ⟨.stretchTimeout, .release, 0, some ⟨s.now, (s.branch b).config.stretchLimit⟩, none⟩ }) k
    · exact State.endOnWires_owed_route (s := s) owed unheld r
  · intro full
    have received : full = j.withReceived c.phase seen.received := j.withReceived_match ..
    rw [received]
    exact conducts.stretchExpires stretch due seen

end Sys2Proof.Machine
end

section
/-! SUPPORT. The phases of a transfer and the events that end them (R90 to R94, R98, R99). -/

namespace Sys2Proof.Machine

/-! ### A job that is ENDING, and the phase it goes on to -/

section
variable {j : Job}

theorem Job.endCause_eq_some {cause : EndCause} : j.endCause = some cause ↔ j.state = .ending cause := by
  unfold Job.endCause
  cases j.state <;> simp

theorem Job.endCause_isSome : j.endCause.isSome = true ↔ ∃ cause, j.state = .ending cause := by
  simp only [Option.isSome_iff_exists, Job.endCause_eq_some]

theorem Job.goOnTo_match (j : Job) (next : Phase) :
    (match j.state with
      | .ending cause => Phase.stopping (.byteBoundary cause)
      | _ => next) = j.goOnTo next := by
  unfold Job.goOnTo Job.endCause
  cases j.state <;> rfl

theorem Job.lastWritten_iff {k : Nat} : j.lastWritten k = true ↔ j.op ≠ .writeRead ∧ j.writeData.length ≤ k + 1 := by
  simp [Job.lastWritten, and_comm]

theorem Job.lastRead_iff {k : Nat} : j.lastRead k = true ↔ j.readCount ≤ k + 1 := by
  simp [Job.lastRead]

/-- An address-only WRITE has completed; any other job goes on to its first byte (R92). -/
theorem Job.afterFirstAddress_eq (j : Job) : j.afterFirstAddress =
    if j.op = .write ∧ j.writeData = [] then .stopping .completed
    else j.goOnTo (if j.op = .read then .reading 0 else .writing 0) := by
  unfold Job.afterFirstAddress
  cases op : j.op with
  | write => by_cases none : j.writeData = [] <;> simp [none]
  | _ => rfl

theorem Job.afterWritten_eq (j : Job) (k : Nat) : j.afterWritten k =
    if j.op ≠ .writeRead ∧ j.writeData.length ≤ k + 1 then .stopping .completed
    else j.goOnTo (if k + 1 < j.writeData.length then .writing (k + 1) else .restart) := by
  simp only [Job.afterWritten, Job.lastWritten_iff]

theorem Job.afterRefusedByte_eq (j : Job) (k : Nat) : j.afterRefusedByte k =
    if j.op ≠ .writeRead ∧ j.writeData.length ≤ k + 1 then .stopping .dataRefused
    else j.goOnTo (.stopping .dataRefused) := by
  simp only [Job.afterRefusedByte, Job.lastWritten_iff]

theorem Job.afterRead_eq (j : Job) (k : Nat) : j.afterRead k =
    if j.readCount ≤ k + 1 then .stopping .completed else j.goOnTo (.reading (k + 1)) := by
  simp only [Job.afterRead, Job.lastRead_iff]

end

/-! ### The events in their phase -/

section
variable {s : State} {b : BranchId} {c : Conduct} {j : Job}

/-- The record of the conducted job is changed in its place (R58, R64). -/
theorem Conducts.updateJob_eq (conducts : Conducts s b c j) (f : Job → Job) (slot : (f j).slot = j.slot) :
    s.updateJob j f = s.withJob b (f j) := by
  have branch := conducts.branch
  subst branch
  rw [conducts.pool.updateJob_own conducts.member f, State.withJob, slot]

theorem Conducts.startPhaseDone (conducts : Conducts s b c j) (phase : c.phase = .start) :
    exec (.startPhaseDone b) s = .next (s.inPhase b c (.address false)) := by
  show execStartPhaseDone b s = _
  simp only [execStartPhaseDone, conducts.conducting, phase]
  rfl

theorem Conducts.restartPhaseDone (conducts : Conducts s b c j) (phase : c.phase = .restart) :
    exec (.restartPhaseDone b) s = .next (s.inPhase b c (.address true)) := by
  show execRestartPhaseDone b s = _
  simp only [execRestartPhaseDone, conducts.conducting, phase]
  rfl

theorem Conducts.firstAddressDone (conducts : Conducts s b c j) (phase : c.phase = .address false) (acknowledged : Bool) :
    exec (.addressPhaseDone b acknowledged) s = .next (if acknowledged then
      (s.withJob b { j with addressAcked := true }).inPhase b c j.afterFirstAddress
    else s.inPhase b c (.stopping (.firstRefused s.now))) := by
  show execAddressPhaseDone b acknowledged s = _
  simp only [execAddressPhaseDone, conducts.conducting, phase, State.ackAddress, conducts.updateJob_eq]
  cases acknowledged <;> rfl

theorem Conducts.repeatedAddressDone (conducts : Conducts s b c j) (phase : c.phase = .address true) (acknowledged : Bool) :
    exec (.addressPhaseDone b acknowledged) s =
      .next (s.inPhase b c (j.goOnTo (if acknowledged then .reading 0 else .stopping .repeatedRefused))) := by
  show execAddressPhaseDone b acknowledged s = _
  simp only [execAddressPhaseDone, conducts.conducting, phase]
  cases acknowledged <;> rfl

theorem Conducts.writingByteDone {k : Nat} (conducts : Conducts s b c j) (phase : c.phase = .writing k)
    (acknowledged : Bool) : exec (.writingByteDone b acknowledged) s = .next (if acknowledged then
      (s.withJob b { j with ackedWrites := k + 1 }).inPhase b c (j.afterWritten k)
    else s.inPhase b c (j.afterRefusedByte k)) := by
  show execWritingByteDone b acknowledged s = _
  simp only [execWritingByteDone, conducts.conducting, phase, conducts.updateJob_eq]
  cases acknowledged <;> rfl

theorem Conducts.readingByteDone {k : Nat} (conducts : Conducts s b c j) (phase : c.phase = .reading k) (received : Byte) :
    exec (.readingByteDone b received) s =
      .next ((s.withJob b { j with readData := j.readData ++ [received] }).inPhase b c (j.afterRead k)) := by
  show execReadingByteDone b received s = _
  simp only [execReadingByteDone, conducts.conducting, phase, State.appendRead, conducts.updateJob_eq]
  rfl

end

/-- Settles O43: each event in its phase, and the phase that follows by the job. -/
theorem phasesFollow : Obligations.PhasesFollow := by
  refine ⟨fun s b c j conducts => ?_, fun s b c j k conducts => ?_⟩
  · intro orStop
    have goesOn (p : Phase) : orStop p = j.goOnTo p := j.goOnTo_match p
    simp only [goesOn, ← Job.afterFirstAddress_eq]
    exact ⟨conducts.startPhaseDone, conducts.restartPhaseDone, fun phase => conducts.firstAddressDone phase true,
      fun phase => conducts.firstAddressDone phase false, fun phase => conducts.repeatedAddressDone phase true,
      fun phase => conducts.repeatedAddressDone phase false⟩
  · intro orStop last
    have goesOn (p : Phase) : orStop p = j.goOnTo p := j.goOnTo_match p
    simp only [goesOn, last, ← Job.afterWritten_eq, ← Job.afterRefusedByte_eq, ← Job.afterRead_eq]
    exact ⟨fun phase => conducts.writingByteDone phase true, fun phase => conducts.writingByteDone phase false,
      fun received phase => conducts.readingByteDone phase received⟩

/-! ### The events outside their phase -/

section
variable {s : State} {b : BranchId} {c : Conduct}

/-- An engine that conducts no job takes no event of a transfer (log 1). -/
theorem exec_transfer_none (none : s.conducting b = none) (bit : Bool) (received : Byte) (seen : StretchEnd) :
    ∀ e ∈ [Instr.startPhaseDone b, .addressPhaseDone b bit, .writingByteDone b bit, .readingByteDone b received,
      .restartPhaseDone b, .stoppingDone b, .stretchIntervalExpires b seen, .contradiction b received],
      exec e s = .next s := by
  simp [exec, execStartPhaseDone, execAddressPhaseDone, execWritingByteDone, execReadingByteDone, execRestartPhaseDone,
    execStoppingDone, execStretchIntervalExpires, execContradiction, none]

/-- What an ACTIVE engine conducts is as its conduct record says, if the job is in the queue. -/
theorem State.conducting_active (engine : (s.branch b).engine = .active c) :
    s.conducting b = none ∨ ∃ j, s.conducting b = some (c, j) := by
  unfold State.conducting
  rw [engine]
  simp only
  cases (s.branch b).queue.find? fun j => j.slot == c.slot with
  | none => exact .inl rfl
  | some j => exact .inr ⟨j, rfl⟩

/-- A stretch interval that does not run, or has not run out, does nothing (log 3). -/
theorem exec_stretchIntervalExpires_early {j : Job} (found : s.conducting b = some (c, j))
    (early : ∀ i, c.stretch = some i → s.now < i.since + i.limit) (seen : StretchEnd) :
    exec (.stretchIntervalExpires b seen) s = .next s := by
  show execStretchIntervalExpires b seen s = _
  simp only [execStretchIntervalExpires, found]
  cases stretch : c.stretch with
  | none => rfl
  | some i => exact if_neg fun due => Nat.not_le.2 (early i stretch) (Interval.due_iff.1 due)

end

/-- Settles O42: by the phase the engine is in, the job it conducts being found or not. -/
theorem phaseEventsNeedTheirPhase : Obligations.PhaseEventsNeedTheirPhase := by
  refine fun s b bit received seen =>
    ⟨fun away => exec_transfer_none (State.conducting_none away) bit received seen, fun c engine => ?_⟩
  rcases State.conducting_active engine with none | ⟨j, found⟩
  · have nothing := exec_transfer_none none bit received seen
    simp only [List.forall_mem_cons] at nothing
    obtain ⟨start, address, writing, reading, restart, stopping, stretch, -⟩ := nothing
    exact ⟨fun _ => start, fun _ => address, fun _ => writing, fun _ => reading, fun _ => restart, fun _ => stopping,
      fun _ => stretch⟩
  · refine ⟨fun away => ?_, fun away => ?_, fun away => ?_, fun away => ?_, fun away => ?_, fun away => ?_,
      fun early => exec_stretchIntervalExpires_early found early seen⟩
    · show execStartPhaseDone b s = _
      cases phase : c.phase with
      | start => exact absurd phase away
      | _ => simp only [execStartPhaseDone, found, phase]
    · show execAddressPhaseDone b bit s = _
      cases phase : c.phase with
      | address repeated => exact absurd phase (away repeated)
      | _ => simp only [execAddressPhaseDone, found, phase]
    · show execWritingByteDone b bit s = _
      cases phase : c.phase with
      | writing k => exact absurd phase (away k)
      | _ => simp only [execWritingByteDone, found, phase]
    · show execReadingByteDone b received s = _
      cases phase : c.phase with
      | reading k => exact absurd phase (away k)
      | _ => simp only [execReadingByteDone, found, phase]
    · show execRestartPhaseDone b s = _
      cases phase : c.phase with
      | restart => exact absurd phase away
      | _ => simp only [execRestartPhaseDone, found, phase]
    · show execStoppingDone b s = _
      cases phase : c.phase with
      | stopping why => exact absurd phase (away why)
      | _ => simp only [execStoppingDone, found, phase]

end Sys2Proof.Machine
end

section
/-! SUPPORT. CONTRADICTION: the points at which the data line is read back, and what a loss or a bus fault does (R97, R101
to R104, R108, R127). -/

namespace Sys2Proof.Machine

/-! ### The points at which the data line is read back -/

/-- The address byte as a number: twice the address, and the direction (R90). -/
theorem addressByte_number (a : BitVec 7) (d : Bool) :
    (a.setWidth 8 <<< 1) ||| flagByte d = BitVec.ofNat 8 (2 * a.toNat + if d = true then 1 else 0) := by
  have small : a.toNat < 128 := a.isLt
  have shifted : (a.setWidth 8 <<< 1).toNat = a.toNat <<< 1 := by
    simp only [BitVec.toNat_shiftLeft, BitVec.toNat_setWidth, Nat.shiftLeft_eq]
    omega
  have flag : (flagByte d).toNat = if d = true then 1 else 0 := by cases d <;> rfl
  refine BitVec.eq_of_toNat_eq ?_
  rw [BitVec.toNat_or, shifted, flag, ← Nat.shiftLeft_add_eq_or_of_lt (by split <;> decide), BitVec.toNat_ofNat,
    Nat.shiftLeft_eq]
  split <;> omega

section
variable {s : State} {j : Job}

theorem State.addressByte_eq (s : State) (j : Job) (repeated : Bool) : s.addressByte j repeated = match j.route with
    | none => 0x00
    | some r => match (s.route r).config with
      | none => 0x00
      | some rc => BitVec.ofNat 8 (2 * rc.address.toNat + if repeated = true ∨ j.op = .read then 1 else 0) := by
  unfold State.addressByte State.routeConfigOf
  cases j.route with
  | none => rfl
  | some r =>
    simp only
    cases (s.route r).config with
    | none => rfl
    | some rc =>
      simp only [addressByte_number, Bool.or_eq_true, beq_iff_eq]

/-- The address byte has a 1 bit (R97). -/
theorem State.readsBack_address {repeated : Bool} : s.readsBack j (.address repeated) = true ↔
    (match j.route with
      | none => 0x00
      | some r => match (s.route r).config with
        | none => 0x00
        | some rc => BitVec.ofNat 8
          (2 * rc.address.toNat + if Phase.address repeated = .address true ∨ j.op = .read then 1 else 0) : Byte) ≠ 0x00 := by
  simp only [State.readsBack, bne_iff_ne, State.addressByte_eq, Phase.address.injEq]

/-- A written byte has a 1 bit (R97). -/
theorem State.readsBack_writing {k : Nat} :
    s.readsBack j (.writing k) = true ↔ ∃ x, j.writeData[k]? = some x ∧ x ≠ 0x00 := by
  rw [State.readsBack, List.getD_eq_getElem?_getD]
  cases j.writeData[k]? <;> simp

/-- The refusal bit of the last byte read, and of the byte at which an ENDING job stops (R94, R98). -/
theorem State.readsBack_reading {k : Nat} :
    s.readsBack j (.reading k) = true ↔ j.readCount ≤ k + 1 ∨ ∃ cause, j.state = .ending cause := by
  rw [State.readsBack, Bool.or_eq_true, Job.lastRead_iff, Job.endCause_isSome]

end

/-! ### The lines as the contradiction found them -/

section
variable {s t : State} {b : BranchId} {c : Conduct} {j : Job} {total : Nat}

/-- Both lines released, the data line read low, and the losses counted (R97, R101). -/
def State.contradicted (s : State) (b : BranchId) (total : Nat) : State :=
  s.setBranch b { s.branch b with lines := ⟨true, false⟩, busFree := false, arbLossTotal := total }

theorem State.contradicted_branch (s : State) (b : BranchId) (total : Nat) : (s.contradicted b total).branch b =
    { s.branch b with lines := ⟨true, false⟩, busFree := false, arbLossTotal := total } :=
  State.branch_setBranch_self ..

theorem State.see_contradicted (s : State) (b : BranchId) :
    s.setBranch b ((s.branch b).see ⟨true, false⟩) = s.contradicted b (s.branch b).arbLossTotal := by
  simp [State.contradicted, Branch.see]

theorem State.contradicted_countLoss (s : State) (b : BranchId) (total : Nat) :
    (s.contradicted b total).countLoss b = s.contradicted b (min (total + 1) 65535) := by
  rw [State.countLoss, State.contradicted_branch]
  exact State.setBranch_setBranch ..

theorem Conducts.setBranch (conducts : Conducts s b c j) {v : Branch} (engine : v.engine = (s.branch b).engine)
    (queue : v.queue = (s.branch b).queue) : Conducts (s.setBranch b v) b c j := by
  refine ⟨conducts.pool.of_queues fun k => ?_, ?_, ?_, conducts.slot⟩
  · rw [State.branch_setBranch]
    split
    · next same => rw [queue, same]
    · rfl
  · rw [State.branch_setBranch_self, engine, conducts.engine]
  · rw [State.branch_setBranch_self, queue]
    exact conducts.member

/-- After the loss the engine waits for the bus, timing the data line (R101, R103). -/
theorem OnlyQueues.waitsForBus (h : OnlyQueues (s.contradicted b total) t) : t.enterWaitFree b =
    t.setBranch b { t.branch b with
      engine := .waitFree (some ⟨.data, ⟨s.now, (s.branch b).config.stretchLimit⟩⟩) } := by
  have branch := h.branch b
  rw [State.contradicted_branch] at branch
  have config : (t.branch b).config = (s.branch b).config := by rw [branch]
  rw [State.enterWaitFree_dataLow (by rw [branch]), config, show t.now = s.now from h.now]

/-- After a bus fault the recovery is at its first pulse (R104, R108, R109; log 14). -/
theorem OnlyQueues.recovers (h : OnlyQueues (s.contradicted b total) t) : t.enterRecovery b .busFault =
    t.setBranch b { t.branch b with
      lines := ⟨false, false⟩
      engine := .recovering ⟨.busFault, .pulsing, 0, some ⟨s.now, (s.branch b).config.stretchLimit⟩, none⟩ } := by
  have branch := h.branch b
  rw [State.contradicted_branch] at branch
  have config : (t.branch b).config = (s.branch b).config := by rw [branch]
  have busFree : (t.branch b).busFree = false := by rw [branch]
  rw [State.enterRecovery_dataLow (by rw [branch]), config, show t.now = s.now from h.now]
  simp only [busFree]

end

/-! ### The event -/

section
variable {s : State} {b : BranchId} {c : Conduct} {j : Job} {received : Byte}

theorem Conducts.contradiction_nothing (conducts : Conducts s b c j) (away : s.readsBack j c.phase = false) :
    exec (.contradiction b received) s = .next s := by
  show execContradiction b received s = _
  simp only [execContradiction, conducts.conducting, away]
  rfl

variable (conducts : Conducts s b c j) (point : s.readsBack j c.phase = true)
include conducts point

theorem Conducts.contradiction : exec (.contradiction b received) s =
    .next (if (s.branch b).config.multi then
        if j.addressAcked then
          (s.contradicted b (s.branch b).arbLossTotal).lossAfterAck b (j.withReceived c.phase (some received))
        else (s.contradicted b (s.branch b).arbLossTotal).lossBeforeAck b (j.withReceived c.phase (some received))
      else (s.contradicted b (s.branch b).arbLossTotal).busFault b (j.withReceived c.phase (some received))) := by
  show execContradiction b received s = _
  simp only [execContradiction, conducts.conducting, point, State.see_contradicted, if_true]

/-- A bus fault (R104), the job being at `i` with the byte received. -/
theorem Conducts.busFaults {i : Job} (seen : i = j.withReceived c.phase (some received))
    (single : (s.branch b).config.multi = false) :
    let t := (s.contradicted b (s.branch b).arbLossTotal).endOnWires i .busFault
    exec (.contradiction b received) s = .next (t.setBranch b { t.branch b with
      lines := ⟨false, false⟩
      engine := .recovering ⟨.busFault, .pulsing, 0, some ⟨s.now, (s.branch b).config.stretchLimit⟩, none⟩ }) := by
  intro t
  rw [conducts.contradiction point, if_neg (by simp [single]), ← seen]
  exact congrArg Host.Outcome.next (State.endOnWires_onlyQueues ..).recovers

variable (multi : (s.branch b).config.multi = true)
include multi

/-- An arbitration loss after the address acknowledge (R103), the job being at `i` with the byte received. -/
theorem Conducts.losesAfterAck {i : Job} (seen : i = j.withReceived c.phase (some received))
    (acked : j.addressAcked = true) :
    let t := (s.contradicted b (min ((s.branch b).arbLossTotal + 1) 65535)).endOnWires i .arbLostData
    exec (.contradiction b received) s = .next (t.setBranch b { t.branch b with
      engine := .waitFree (some ⟨.data, ⟨s.now, (s.branch b).config.stretchLimit⟩⟩) }) := by
  intro t
  rw [conducts.contradiction point, if_pos multi, if_pos acked, ← seen, State.lossAfterAck, State.contradicted_countLoss]
  exact congrArg Host.Outcome.next (State.endOnWires_onlyQueues ..).waitsForBus

/-- The job with the loss counted and its progress cleared (R57, R101, R102). -/
def Job.lost (j : Job) : Job :=
  { j with arbLosses := j.arbLosses + 1, ackedWrites := 0, readData := [], addressAcked := false }

variable (unacked : j.addressAcked = false)
include unacked

/-- An arbitration loss before the address acknowledge that ends the job (R102). -/
theorem Conducts.losesAndEnds {st : Status}
    (ends : j.state = .active ∧ 8 ≤ j.arbLosses + 1 ∧ st = .arbLost ∨ ∃ cause, j.state = .ending cause ∧ st = cause.status) :
    let t := (s.contradicted b (min ((s.branch b).arbLossTotal + 1) 65535)).endOnWires j.lost st
    exec (.contradiction b received) s = .next (t.setBranch b { t.branch b with
      engine := .waitFree (some ⟨.data, ⟨s.now, (s.branch b).config.stretchLimit⟩⟩) }) := by
  intro t
  obtain ⟨data, kept⟩ := j.withReceived_eq c.phase (some received)
  have status : Job.lossStatus { j with readData := data, arbLosses := j.arbLosses + 1 } = some st := by
    rcases ends with ⟨active, eighth, rfl⟩ | ⟨cause, ending, rfl⟩
    · simp only [Job.lossStatus, Job.endCause, active, Config.arbLossLimit]
      exact if_neg (Nat.not_lt.2 eighth)
    · simp only [Job.lossStatus, Job.endCause, ending]
  rw [conducts.contradiction point, if_pos multi, if_neg (by simp [unacked]), kept, State.lossBeforeAck,
    State.contradicted_countLoss]
  simp only [status]
  exact congrArg Host.Outcome.next (State.endOnWires_onlyQueues ..).waitsForBus

/-- The job back in QUEUED in its place, the loss counted (R101). -/
def State.requeued (s : State) (b : BranchId) (j : Job) : State :=
  s.setBranch b { s.branch b with
    lines := ⟨true, false⟩
    busFree := false
    arbLossTotal := min ((s.branch b).arbLossTotal + 1) 65535
    queue := (s.branch b).queue.map fun i => if i.slot = j.slot then { j.lost with state := .queued } else i }

/-- An arbitration loss before the address acknowledge after which the job is QUEUED again (R101, R127). -/
theorem Conducts.losesAndReturns (active : j.state = .active) (few : j.arbLosses + 1 < 8) :
    let t := (s.requeued b j).settleRouteOf j
    exec (.contradiction b received) s = .next (t.setBranch b { t.branch b with
      engine := .waitFree (some ⟨.data, ⟨s.now, (s.branch b).config.stretchLimit⟩⟩) }) := by
  intro t
  obtain ⟨data, kept⟩ := j.withReceived_eq c.phase (some received)
  have status : Job.lossStatus { j with readData := data, arbLosses := j.arbLosses + 1 } = none := by
    simp only [Job.lossStatus, Job.endCause, active, Config.arbLossLimit]
    exact if_pos few
  have found : Conducts (s.contradicted b (min ((s.branch b).arbLossTotal + 1) 65535)) b c j := conducts.setBranch rfl rfl
  have returned : (s.contradicted b (min ((s.branch b).arbLossTotal + 1) 65535)).updateJob j Job.requeued =
      s.requeued b j := by
    rw [found.updateJob_eq Job.requeued rfl, State.withJob, State.contradicted_branch]
    exact State.setBranch_setBranch ..
  rw [conducts.contradiction point, if_pos multi, if_neg (by simp [unacked]), kept, State.lossBeforeAck,
    State.contradicted_countLoss]
  simp only [status]
  have keeps : OnlyQueues (s.contradicted b (min ((s.branch b).arbLossTotal + 1) 65535)) t := by
    refine .trans ?_ (State.settleRouteOf_onlyQueues ..)
    rw [← returned]
    exact State.updateJob_onlyQueues ..
  rw [← keeps.waitsForBus]
  show Host.Outcome.next (((State.updateJob _ j Job.requeued).settleRouteOf j).enterWaitFree b) = _
  rw [returned]

end

end Sys2Proof.Machine
end

section
/-! The statement about CONTRADICTION, settled (R97, R101 to R104, R108, R127). -/

namespace Sys2Proof.Machine

/-- Settles O47: what any job's contradiction does is said by the lemmas above, and for an owed job with no failure waiting
the end is its deliveries. -/
theorem contradictionEndsTheAttempt : Obligations.ContradictionEndsTheAttempt := by
  intro s b c j received conducts br interval lost waiting recovering cleared full left contradicted address
    readBack loses ends
  have points : readBack ↔ s.readsBack j c.phase = true := by
    simp only [readBack, address]
    cases c.phase with
    | address repeated => exact State.readsBack_address.symm
    | writing k => exact State.readsBack_writing.symm
    | reading k => exact State.readsBack_reading.symm
    | _ => exact iff_of_true trivial rfl
  have seen : full = j.withReceived c.phase (some received) := by
    simp only [full]
    cases c.phase <;> rfl
  refine ⟨fun away => conducts.contradiction_nothing (by simpa [points] using away),
    fun back tag origin post opened unheld => ?_, fun back => ?_⟩
  · have branch := conducts.branch
    obtain ⟨data, kept⟩ := j.withReceived_eq c.phase (some received)
    rw [← seen] at kept
    clear_value full
    subst kept
    have owedCleared : cleared.owedTag = some tag := Job.owedTag_host origin post
    have owedFull : Job.owedTag { j with readData := data } = some tag := Job.owedTag_host origin post
    refine ⟨fun ⟨multi, unacked, active, few⟩ => ?_, fun st ⟨multi, unacked, how⟩ => ?_, fun multi acked => ?_,
      fun single => ?_⟩
    · have runs := conducts.losesAndReturns (received := received) (points.1 back) multi unacked active few
      rw [State.settleRouteOf_unheld (s := s.requeued b j) unheld] at runs
      simp only [State.requeued, State.branch_setBranch_self, State.setBranch_setBranch] at runs
      exact runs
    · refine ⟨_, conducts.losesAndEnds (points.1 back) multi unacked how, ?_, fun k => ?_⟩
      · exact State.endOnWires_owed_replies (s := contradicted lost) owedCleared unheld
      · exact State.endOnWires_owed_branches (s := s) owedCleared unheld branch (fun x => { x with engine := waiting }) k
    · refine ⟨_, conducts.losesAfterAck (points.1 back) multi seen acked, ?_, fun k => ?_⟩
      · exact State.endOnWires_owed_replies (s := contradicted lost) owedFull unheld
      · exact State.endOnWires_owed_branches (s := s) owedFull unheld branch (fun x => { x with engine := waiting }) k
    · refine ⟨_, conducts.busFaults (points.1 back) seen single, ?_, fun k => ?_⟩
      · exact State.endOnWires_owed_replies (s := contradicted br.arbLossTotal) owedFull unheld
      · exact State.endOnWires_owed_branches (s := s) owedFull unheld branch
          (fun x => { x with lines := ⟨false, false⟩, engine := recovering }) k
  · refine ⟨fun ⟨multi, unacked, active, few⟩ => ?_, fun st ⟨multi, unacked, how⟩ => ?_, fun multi acked => ?_,
      fun single => ?_⟩
    · intro requeued t
      have returned : requeued = s.requeued b j := by
        have found : (contradicted lost).branch b = _ := s.contradicted_branch b lost
        simp only [requeued, found]
        exact State.setBranch_setBranch ..
      have settled : t = (s.requeued b j).settleRouteOf j := by
        rw [← returned]
        simp only [t]
        cases route : j.route with
        | none => exact (State.settleRouteOf_none route _).symm
        | some r => exact (State.settleRouteOf_some route _).symm
      rw [settled]
      exact conducts.losesAndReturns (points.1 back) multi unacked active few
    · exact conducts.losesAndEnds (points.1 back) multi unacked how
    · exact conducts.losesAfterAck (points.1 back) multi seen acked
    · exact conducts.busFaults (points.1 back) seen single

end Sys2Proof.Machine
end

section
/-! SUPPORT. The line monitor: a line seen to change, by the engine, and the stuck-line interval (R87, R89, R96, R109,
R110). -/

namespace Sys2Proof.Machine

/-! ### What the engine makes of the change -/

section
variable {br : Branch} {now : Nat} {line : BusLine}

/-- An engine at rest, and a recovery in RELEASE under a low clock, leave the change to the line monitor. -/
theorem Branch.react_quiet (quiet : br.engine = .off ∨ br.engine = .idle ∨ br.engine = .isolated ∨
    ∃ r, br.engine = .recovering r ∧ r.step = .release ∧ br.lines.clockHigh = false) : br.react now line = br := by
  unfold Branch.react
  rcases quiet with engine | engine | engine | ⟨r, engine, step, low⟩ <;> simp only [engine]
  simp [step, low]

theorem Branch.react_waitFree {stuck : Option Stuck} (engine : br.engine = .waitFree stuck) : br.react now line =
    { br with engine := .waitFree (stuckOnChange now br.config.stretchLimit line br.lines stuck) } := by
  simp only [Branch.react, engine]

theorem Branch.react_active {c : Conduct} (engine : br.engine = .active c) : br.react now line =
    { br with engine := .active (c.onLine now br.config.stretchLimit line br.lines.clockHigh) } := by
  simp only [Branch.react, engine]

section
variable {r : Recovery} (engine : br.engine = .recovering r)
include engine

theorem Branch.react_idleWait (step : r.step = .idleWait) : br.react now line =
    { br with
      engine := .recovering { r with stuck := stuckOnChange now br.config.stretchLimit line br.lines r.stuck } } := by
  simp only [Branch.react, engine, step]

theorem Branch.react_pulse (step : r.step = .pulsing ∨ r.step = .stop) : br.react now line =
    { br with engine := .recovering (r.onLine line br.lines.clockHigh) } := by
  rcases step with step | step <;> simp only [Branch.react, engine, step]

theorem Branch.react_released (step : r.step = .release) (high : br.lines.clockHigh = true) :
    br.react now line = br.recoverUnderHighClock now r.cause := by
  simp only [Branch.react, engine, step, high, if_true]

end

end

theorem Conduct.onLine_eq (c : Conduct) (now limit : Nat) (line : BusLine) (high : Bool) : c.onLine now limit line high =
    { c with stretch := match line with
      | .data => c.stretch
      | .clock => if high then none else if c.phase = .start then c.stretch else some ⟨now, limit⟩ } := by
  obtain ⟨slot, phase, stretch⟩ := c
  cases line with
  | data => rfl
  | clock => cases high <;> cases phase <;> rfl

theorem Recovery.onLine_eq (r : Recovery) (line : BusLine) (high : Bool) :
    r.onLine line high = { r with clock := if line = .clock ∧ high = true then none else r.clock } := by
  unfold Recovery.onLine
  cases line <;> cases high <;> simp

/-! ### The command -/

section
variable {s : State} {b : BranchId} {line : BusLine} {high : Bool}

theorem withLevel_eq_iff {lines : Lines} : withLevel lines line high = lines ↔ lineLevel lines line = high := by
  cases lines
  cases line <;> simp [withLevel, lineLevel, eq_comm]

theorem exec_branchLineLevelChange_same (same : withLevel (s.branch b).lines line high = (s.branch b).lines) :
    exec (.branchLineLevelChange b line high) s = .next s :=
  congrArg Host.Outcome.next (if_pos (beq_iff_eq.2 (withLevel_eq_iff.1 same)))

theorem exec_branchLineLevelChange (change : withLevel (s.branch b).lines line high ≠ (s.branch b).lines) :
    exec (.branchLineLevelChange b line high) s =
      .next (s.setBranch b (((s.branch b).see (withLevel (s.branch b).lines line high)).react s.now line)) :=
  congrArg Host.Outcome.next (if_neg fun same => change (withLevel_eq_iff.2 (beq_iff_eq.1 same)))

end

/-- Settles O38: by the engine, which the change reaches as the line monitor has seen it. -/
theorem lineChangesAreSeen : Obligations.LineChangesAreSeen := by
  intro s b line high br lines seen interval timed
  have levels : lines = withLevel br.lines line high := by cases line <;> rfl
  refine ⟨fun same => exec_branchLineLevelChange_same (levels ▸ same), fun change => ?_⟩
  have reacts {v : Branch} (same : (br.see lines).react s.now line = v) :
      exec (.branchLineLevelChange b line high) s = .next (s.setBranch b v) := by
    rw [← same, levels]
    exact exec_branchLineLevelChange (levels ▸ change)
  have times (running : Option Stuck) : stuckOnChange s.now br.config.stretchLimit line lines running = timed running := by
    cases line with
    | clock => rfl
    | data => cases clock : br.lines.clockHigh <;> simp [stuckOnChange, stuckOnEntry, lines, timed, clock, interval]
  refine ⟨fun quiet => reacts (Branch.react_quiet quiet), fun c engine => reacts ?_, fun r engine step => reacts ?_,
    fun stuck engine => reacts ?_, fun r engine step => reacts ?_, fun r engine step risen => reacts ?_⟩
  · rw [Branch.react_active (br := br.see lines) engine, Conduct.onLine_eq]
    cases line <;> rfl
  · rw [Branch.react_pulse (br := br.see lines) engine step, Recovery.onLine_eq]
    cases line <;> simp [Branch.see, seen, lines]
  · rw [Branch.react_waitFree (br := br.see lines) engine, ← times]
    rfl
  · rw [Branch.react_idleWait (br := br.see lines) engine step, ← times]
    rfl
  · rw [Branch.react_released (br := br.see lines) engine step risen]
    rfl

/-! ### The stuck-line interval -/

section
variable {s : State} {b : BranchId}

theorem exec_stuckLineIntervalExpires_waitFree {stuck : Option Stuck} (engine : (s.branch b).engine = .waitFree stuck) :
    exec (.stuckLineIntervalExpires b) s = .next (match stuck with
      | none => s
      | some x => if x.interval.due s.now then s.enterRecovery b (stuckCause x.line) else s) := by
  show execStuckLineIntervalExpires b s = _
  simp only [execStuckLineIntervalExpires, engine]
  cases stuck <;> rfl

theorem exec_stuckLineIntervalExpires_due {x : Stuck} (engine : (s.branch b).engine = .waitFree (some x))
    (due : x.interval.since + x.interval.limit ≤ s.now) :
    exec (.stuckLineIntervalExpires b) s = .next (s.enterRecovery b (stuckCause x.line)) :=
  (exec_stuckLineIntervalExpires_waitFree engine).trans
    (congrArg Host.Outcome.next (if_pos (Interval.due_iff.2 due)))

end

/-- Settles O39: by the engine; the interval at its limit is what `State.enterRecovery` makes of the lines. -/
theorem stuckLineBeginsARecovery : Obligations.StuckLineBeginsARecovery := by
  refine fun s b => ⟨fun stuck engine early => ?_, fun r engine step early => ?_, fun i engine due low => ?_,
    fun i engine due lines => ?_, fun awake away => ?_⟩
  · rw [exec_stuckLineIntervalExpires_waitFree engine]
    cases stuck with
    | none => rfl
    | some x =>
      exact congrArg Host.Outcome.next (if_neg fun due => Nat.not_le.2 (early x rfl) (Interval.due_iff.1 due))
  · show execStuckLineIntervalExpires b s = _
    simp only [execStuckLineIntervalExpires, engine, step]
    have undue : stuckDue r.stuck s.now = false := by
      unfold stuckDue
      cases stuck : r.stuck with
      | none => rfl
      | some x => exact Bool.eq_false_iff.2 fun due => Nat.not_le.2 (early x stuck) (Interval.due_iff.1 due)
    simp [undue]
  · rw [exec_stuckLineIntervalExpires_due engine due, State.enterRecovery_clockLow low]
    rfl
  · rw [exec_stuckLineIntervalExpires_due engine due, State.enterRecovery_dataLow lines]
    rfl
  · show execStuckLineIntervalExpires b s = _
    cases engine : (s.branch b).engine with
    | waitFree stuck => exact absurd engine (awake stuck)
    | recovering r =>
      simp only [execStuckLineIntervalExpires, engine]
      exact congrArg Host.Outcome.next (if_neg fun due => away r engine due.1)
    | _ => simp only [execStuckLineIntervalExpires, engine]

end Sys2Proof.Machine
end

section
/-! SUPPORT. BRANCH_SET (R82, R83). -/

namespace Sys2Proof.Machine

theorem Engine.settled_iff {e : Engine} : e.settled = true ↔ e = .off ∨ e = .idle ∨ e = .isolated := by
  unfold Engine.settled
  cases e <;> simp

/-- An accepted BRANCH_SET turns the engine OFF, or out of OFF into IDLE (R83). -/
theorem Engine.afterBranchSet_eq (e : Engine) (enabled : Bool) :
    e.afterBranchSet enabled = if enabled then (if e = .off then .idle else e) else .off := by
  unfold Engine.afterBranchSet
  cases enabled <;> cases e <;> simp

section
variable {s : State} {f : Frame} {rest : List Frame} {b : BranchId} {c : BranchConfig}

theorem State.branchSet_accepted (settled : (s.branch b).engine.settled = true) (empty : (s.branch b).queue = []) :
    s.branchSet f (b, c) = (s.setBranch b { s.branch b with
      config := c
      engine := (s.branch b).engine.afterBranchSet c.enabled }).answer f
        [0x00, byte b.val, ((s.branch b).engine.afterBranchSet c.enabled).code] := by
  simp only [State.branchSet, settled, empty]
  rfl

theorem State.branchSet_refused (busy : ¬ ((s.branch b).engine.settled = true ∧ (s.branch b).queue = [])) :
    s.branchSet f (b, c) = s.answer f [0x29] :=
  if_neg (by simpa using busy)

end

/-- Settles O25: the request as taken, by whether the engine is settled and its queue empty. -/
theorem branchSetOnAnIdleBranch : Obligations.BranchSetOnAnIdleBranch := by
  intro f rest b c s asks opened low high payload e
  have formed : readBranchSet f.payload = some (b, c) := by rw [payload, readBranchSet_bytes ⟨low, high⟩]
  have engine : (s.branch b).engine.afterBranchSet c.enabled = e := Engine.afterBranchSet_eq ..
  refine ⟨fun settled empty => ?_, fun busy => ?_⟩
  · have accepted := State.branchSet_accepted (s := s.taken f rest) (f := f) (c := c) (Engine.settled_iff.2 settled) empty
    show Host.Outcome.next (s.request .branchSet readBranchSet State.branchSet) = _
    rw [asks.act_open opened (by decide) rfl readBranchSet State.branchSet formed, accepted, ← engine,
      show (0x98 : Byte) = f.kind + 0x80 by rw [asks.kind]; rfl, ← asks.ready.answered]
    rfl
  · have refused := State.branchSet_refused (s := s.taken f rest) (f := f) (b := b) (c := c) fun ⟨settled, empty⟩ => by
      rcases busy with ⟨off, idle, isolated⟩ | waits
      · rcases Engine.settled_iff.1 settled with same | same | same
        exacts [off same, idle same, isolated same]
      · exact waits empty
    exact congrArg Host.Outcome.next (asks.answers opened (by decide) rfl formed refused)

end Sys2Proof.Machine
end

section
/-! SUPPORT. A recovery: BRANCH_RESET, which begins one (R117, R118), and the steps of one that goes on (R109, R110). -/

namespace Sys2Proof.Machine

/-! ### BRANCH_RESET -/

/-- The entry of a recovery, by the levels of the lines (R108, R109; log 14). -/
theorem State.enterRecovery_eq (s : State) (b : BranchId) (cause : RecoveryCause) :
    s.enterRecovery b cause = s.setBranch b { s.branch b with
      busFree := (s.branch b).busFree && !(s.branch b).lines.clockHigh
      lines := ⟨false, (s.branch b).lines.dataHigh⟩
      engine := .recovering ⟨cause,
        if (s.branch b).lines.clockHigh then (if (s.branch b).lines.dataHigh then .stop else .pulsing) else .release,
        0, some ⟨s.now, (s.branch b).config.stretchLimit⟩, none⟩ } := by
  cases clock : (s.branch b).lines.clockHigh with
  | true =>
    refine (if_pos clock).trans (congrArg (s.setBranch b) ?_)
    simp only [Branch.recoverUnderHighClock, Branch.pullsClock, Bool.not_true, Bool.and_false, if_true]
  | false =>
    have lines : (⟨false, (s.branch b).lines.dataHigh⟩ : Lines) = (s.branch b).lines := by rw [← clock]
    rw [State.enterRecovery_clockLow clock, lines, Bool.not_false, Bool.and_true, if_neg Bool.false_ne_true]

section
variable {s : State} {f : Frame} {rest : List Frame} {b : BranchId}

theorem State.branchReset_off (off : (s.branch b).engine = .off) : s.branchReset f b = s.refuse f .branchDown := by
  rw [State.branchReset, off]

theorem State.branchReset_busy (off : (s.branch b).engine ≠ .off) (idle : (s.branch b).engine ≠ .idle)
    (isolated : (s.branch b).engine ≠ .isolated) : s.branchReset f b = s.refuse f .branchBusy := by
  unfold State.branchReset
  cases engine : (s.branch b).engine with
  | off => exact absurd engine off
  | idle => exact absurd engine idle
  | isolated => exact absurd engine isolated
  | waitFree | active | recovering => rfl

theorem State.branchReset_accepted (rests : (s.branch b).engine = .idle ∨ (s.branch b).engine = .isolated) :
    s.branchReset f b = (s.setPendingReset b (some f.tag)).enterRecovery b .reset := by
  rcases rests with engine | engine <;> rw [State.branchReset, engine]

theorem AsksOpen.branchReset (asks : AsksOpen s f rest .branchReset) (payload : f.payload = [byte b.val]) :
    exec .branchReset s = .next ((s.taken f rest).branchReset f b).endTake :=
  congrArg Host.Outcome.next (asks.act (by decide) readBranch State.branchReset (payload ▸ readBranch_byte b))

/-- A BRANCH_RESET that its action refuses is answered with the status alone (R117, R174). -/
theorem AsksOpen.branchReset_refused (asks : AsksOpen s f rest .branchReset) (payload : f.payload = [byte b.val])
    {st : Status} (refused : (s.taken f rest).branchReset f b = (s.taken f rest).refuse f st) :
    exec .branchReset s = .next (s.afterReply rest ⟨0x9A, f.tag, [st.code]⟩) := by
  rw [asks.branchReset payload, refused]
  refine congrArg Host.Outcome.next ((asks.asks.ready.answered _).trans ?_)
  rw [asks.asks.kind]
  rfl

end

/-- Settles O26: the request by the engine, and the recovery it begins as `State.enterRecovery_eq` has it. -/
theorem branchResetBeginsARecovery : Obligations.BranchResetBeginsARecovery := by
  refine fun f rest b s asks payload => ⟨fun off => ?_, fun off idle isolated => ?_, fun rests => ?_⟩
  · exact asks.branchReset_refused payload (State.branchReset_off (s := s.taken f rest) off)
  · exact asks.branchReset_refused payload (State.branchReset_busy (s := s.taken f rest) off idle isolated)
  · rw [asks.branchReset payload, State.branchReset_accepted (s := s.taken f rest) rests, State.enterRecovery_eq]
    simp only [State.endTake, ← asks.asks.ready.free]
    rfl

/-! ### The steps of a recovery -/

section
variable {s : State} {b : BranchId} {r : Recovery} {dataHigh : Bool}

theorem State.recovery_of_engine (engine : (s.branch b).engine = .recovering r) : s.recovery b = some r := by
  rw [State.recovery, engine]

theorem State.recovery_none (away : ∀ r, (s.branch b).engine ≠ .recovering r) : s.recovery b = none := by
  unfold State.recovery
  cases engine : (s.branch b).engine with
  | recovering r => exact absurd engine (away r)
  | _ => rfl

theorem clockDue_iff {clock : Option Interval} {now : Nat} :
    clockDue clock now = true ↔ ∃ i, clock = some i ∧ i.since + i.limit ≤ now := by
  cases clock <;> simp [clockDue, Interval.due_iff]

/-- An engine that is not RECOVERING takes no event of a recovery (log 1). -/
theorem exec_recovery_none (none : s.recovery b = none) : ∀ e ∈ [Instr.recoveryPulseDone b dataHigh,
    .recoveryStopDone b dataHigh, .recoveryClockIntervalExpires b], exec e s = .next s := by
  simp [exec, execRecoveryPulseDone, execRecoveryStopDone, execRecoveryClockIntervalExpires, none]

section
variable (found : s.recovery b = some r)
include found

/-- A pulse after which the recovery goes on: it is counted, and the clock line is pulled low again (R109). -/
theorem exec_recoveryPulseDone_goesOn (step : r.step = .pulsing) (goesOn : dataHigh = true ∨ r.pulses + 1 < 9) :
    exec (.recoveryPulseDone b dataHigh) s = .next (s.setBranch b { ((s.branch b).pulsed dataHigh).pullsClock with
      engine := .recovering (r.afterPulse s.now (s.branch b).config.stretchLimit dataHigh) }) := by
  have notLast : ¬ (dataHigh = false ∧ Config.recoveryPulses ≤ r.pulses + 1) := fun ⟨low, last⟩ =>
    goesOn.elim (fun high => Bool.false_ne_true (low.symm.trans high)) (Nat.not_lt.2 last)
  show execRecoveryPulseDone b dataHigh s = _
  simp only [execRecoveryPulseDone, found, if_pos step, if_neg notLast]

/-- The stop of a recovery: the engine waits for BUS_FREE, timing a line found low (R110). -/
theorem exec_recoveryStopDone (step : r.step = .stop) : exec (.recoveryStopDone b dataHigh) s =
    .next (s.setBranch b { (s.branch b).stopMade r dataHigh with
      engine := .recovering { r with
        step := .idleWait
        clock := none
        stuck := stuckOnEntry s.now (s.branch b).config.stretchLimit ⟨r.clockAtStop (s.branch b).lines, dataHigh⟩ } }) := by
  show execRecoveryStopDone b dataHigh s = _
  simp only [execRecoveryStopDone, found, if_pos step]
  rfl

theorem exec_recoveryPulseDone_away (away : r.step ≠ .pulsing) : exec (.recoveryPulseDone b dataHigh) s = .next s := by
  show execRecoveryPulseDone b dataHigh s = _
  simp only [execRecoveryPulseDone, found, if_neg away]

theorem exec_recoveryStopDone_away (away : r.step ≠ .stop) : exec (.recoveryStopDone b dataHigh) s = .next s := by
  show execRecoveryStopDone b dataHigh s = _
  simp only [execRecoveryStopDone, found, if_neg away]

/-- A clock interval that does not run, or has not run out, does nothing (log 3). -/
theorem exec_recoveryClockIntervalExpires_early (early : ∀ i, r.clock = some i → s.now < i.since + i.limit) :
    exec (.recoveryClockIntervalExpires b) s = .next s := by
  have notDue : ¬ (r.step ≠ .idleWait ∧ clockDue r.clock s.now = true) := fun ⟨_, due⟩ => by
    obtain ⟨i, clock, limit⟩ := clockDue_iff.1 due
    exact Nat.not_le.2 (early i clock) limit
  show execRecoveryClockIntervalExpires b s = _
  simp only [execRecoveryClockIntervalExpires, found, if_neg notDue]

end

/-- The clock line at the stop is high if its rise comes with the stop, or was seen and the line stayed high (log 13,
log 33). -/
theorem Recovery.clockAtStop_iff {lines : Lines} :
    r.clockAtStop lines = true ↔ r.clock ≠ none ∨ lines.clockHigh = true := by
  rw [Recovery.clockAtStop, Bool.or_eq_true, Option.isSome_iff_ne_none]

end

/-- Settles O40: each event in its step, the stop by the level of the clock line; and the events outside their steps. -/
theorem recoveryStepsFollow : Obligations.RecoveryStepsFollow := by
  intro s b dataHigh interval read
  refine ⟨fun r engine => ?_, fun away => ?_⟩
  · have found := State.recovery_of_engine engine
    refine ⟨fun step goesOn => exec_recoveryPulseDone_goesOn found step goesOn, fun step high => ?_,
      fun step ended low => ?_, exec_recoveryPulseDone_away found, exec_recoveryStopDone_away found,
      exec_recoveryClockIntervalExpires_early found⟩
    · have clock : r.clockAtStop (s.branch b).lines = true := Recovery.clockAtStop_iff.2 high
      rw [exec_recoveryStopDone found step, Branch.stopMade, clock]
      rfl
    · have clock : r.clockAtStop (s.branch b).lines = false := by simp [Recovery.clockAtStop, ended, low]
      rw [exec_recoveryStopDone found step, Branch.stopMade, clock, ← ended]
      rfl
  · have nothing := exec_recovery_none (dataHigh := dataHigh) (State.recovery_none away)
    simp only [List.forall_mem_cons] at nothing
    obtain ⟨pulse, stop, clock, -⟩ := nothing
    exact ⟨pulse, stop, clock⟩

end Sys2Proof.Machine
end

section
/-! SUPPORT. A late failure that waits, once its route has no job on the wires (R127). -/

namespace Sys2Proof.Machine

/-! ### Configurations under a late failure -/

/-- A purged job moves its route's JOBS alone, like any job that leaves: ROUTE_HELD gives no evidence (R125, R135). -/
theorem State.purgeJob_routes (s : State) (j : Job) : (s.purgeJob j).routes = (s.leave j).routes := by
  unfold State.purgeJob purgeOne
  cases origin : j.origin with
  | watch w => exact (congrArg State.routes (State.removeJob_watch s j origin) :)
  | host tag =>
    cases post : j.post with
    | some p => exact congrArg State.routes (State.removeJob_host s j origin)
    | none =>
      have neutral (t : State) (r : RouteId) (acked : Bool) : t.presenceOutcome r .routeHeld acked = t :=
        State.presenceOutcome_neutral rfl
      have owed : j.withoutProgress.owedTag = some tag := by simp [Job.owedTag, Job.withoutProgress, origin, post]
      have host : j.withoutProgress.origin = .host tag := origin
      have same : j.withoutProgress.route = j.route := rfl
      unfold State.deliver State.leave
      simp only [owed, host, same, neutral]
      cases j.route <;> cases j.withoutProgress.cancelTag <;> rfl

theorem State.purgeJob_config (s : State) (j : Job) (q : RouteId) :
    ((s.purgeJob j).route q).config = (s.route q).config := by
  rw [State.route, State.purgeJob_routes]
  exact (congrArg Route.config (State.leave_route s j q) :)

section
variable {s : State} {r : RouteId}

theorem State.setRoute_config {v : Route} (config : v.config = (s.route r).config) (q : RouteId) :
    ((s.setRoute r v).route q).config = (s.route q).config := by
  rw [State.route_setRoute]
  split
  · next same => rw [config, same]
  · rfl

theorem State.carryOut_config (f : FailedPost) (d : Discards) (q : RouteId) :
    ((s.carryOut r f d).route q).config = (s.route q).config := by
  have offered (t : State) (x : NoticeBody) : (t.offer x).route q = t.route q := by
    rw [State.route, State.offer_routes]
    rfl
  have purged (t : State) : ((t.purge r d).1.route q).config = (t.route q).config := by
    rw [State.purge_fst]
    exact State.foldl_keeps (fun u => (u.route q).config) _ (fun u j => u.purgeJob_config j q) _ t
  unfold State.carryOut
  simp only
  rw [offered, State.setRoute_config, purged, State.setRoute_config] <;> rfl

/-- A late failure carried out forgets any that waits: it may as well be forgotten before. -/
theorem State.carryOut_forgets (f : FailedPost) (d : Discards) :
    (s.setRoute r { s.route r with waiting := none }).carryOut r f d = s.carryOut r f d := by
  unfold State.carryOut
  simp only [State.setRoute_setRoute, State.route_setRoute_self]

/-! ### The waiting failure settled -/

theorem State.routeOnWires_iff : s.routeOnWires r = true ↔ ∃ j ∈ s.jobs, j.route = some r ∧ j.onWires = true := by
  simp [State.routeOnWires]

theorem State.routeOnWires_false_iff :
    s.routeOnWires r = false ↔ ∀ j ∈ s.jobs, j.route = some r → j.onWires = false := by
  simp [State.routeOnWires]

/-- A failure waits on while its route has a job on the wires. -/
theorem State.settleWaiting_busy (busy : s.routeOnWires r = true) : s.settleWaiting r = s := by
  unfold State.settleWaiting
  split
  · rfl
  · exact if_pos busy

theorem State.waitingSettled_config (q : RouteId) : ((s.waitingSettled r).route q).config = (s.route q).config := by
  unfold State.waitingSettled
  split
  · rfl
  · split
    · exact State.carryOut_config ..
    · exact State.setRoute_config (s := s) (v := { s.route r with waiting := none }) rfl q

section
variable {w : WaitingFailure} (waits : (s.route r).waiting = some w)
include waits

/-- In OPEN the waiting failure is carried out (R124, R127). -/
theorem State.waitingSettled_opened (opened : s.session = .opened) :
    s.waitingSettled r = s.carryOut r w.failed w.merged := by
  unfold State.waitingSettled
  rw [waits]
  exact if_pos opened

/-- In CLOSING it is counted with the jobs merged into it (R127). -/
theorem State.waitingSettled_closing (closing : s.session = .closing) : s.waitingSettled r =
    { s.setRoute r { s.route r with waiting := none } with
      discardedPosts := min (s.discardedPosts + (1 + w.merged.count)) 255 } := by
  unfold State.waitingSettled
  rw [waits]
  exact if_neg (by rw [closing]; decide)

/-- With no job of the route to purge, the hold is set with the merged jobs as its discards, and the notice offered. -/
theorem State.waitingSettled_alone (opened : s.session = .opened) (alone : ∀ j ∈ s.jobs, j.route ≠ some r) :
    s.waitingSettled r = (s.setRoute r { s.route r with
      waiting := none, hold := some ⟨w.failed.post, w.failed.status, w.merged.count⟩ }).offer
        (.lateFault r w.failed w.merged) := by
  have forgotten := State.carryOut_alone (s := s.setRoute r { s.route r with waiting := none }) alone
    (by rw [State.route_setRoute_self]) w.failed w.merged
  rw [State.route_setRoute_self, State.setRoute_setRoute] at forgotten
  rw [State.waitingSettled_opened waits opened, ← State.carryOut_forgets, forgotten]

end

/-! ### The selection after it -/

theorem State.selectForRoute_configured {rc : RouteConfig} (config : (s.route r).config = some rc) :
    s.selectForRoute r = s.selectIfIdle rc.branch := by
  unfold State.selectForRoute
  rw [config]

/-- A free route has no engine to select, and an engine that is not IDLE does not. -/
theorem State.selectForRoute_stays (h : (s.route r).config = none ∨
    ∃ rc, (s.route r).config = some rc ∧ (s.branch rc.branch).engine ≠ .idle) : s.selectForRoute r = s := by
  rcases h with free | ⟨rc, config, busy⟩
  · unfold State.selectForRoute
    rw [free]
  · rw [State.selectForRoute_configured config, State.selectIfIdle_busy busy]

/-- A failure settled leaves the route's configuration and the engines as they are. -/
theorem State.waitingSettled_stays (free : s.routeOnWires r = false) (h : (s.route r).config = none ∨
    ∃ rc, (s.route r).config = some rc ∧ (s.branch rc.branch).engine ≠ .idle) :
    (s.waitingSettled r).selectForRoute r = s.waitingSettled r := by
  have engine (b : BranchId) : ((s.waitingSettled r).branch b).engine = (s.branch b).engine := by
    rw [← State.settleWaiting_eq free]
    exact (congrArg Branch.engine ((s.settleWaiting_onlyQueues r).branch b) :)
  refine State.selectForRoute_stays ?_
  simpa only [State.waitingSettled_config, engine] using h

/-! ### The command -/

/-- With no failure waiting, or a job of the route on the wires, the command does nothing (log 1, log 10). -/
theorem exec_waitingLateFailureCarriedOut_nothing (h : (s.route r).waiting = none ∨ s.routeOnWires r = true) :
    exec (.waitingLateFailureCarriedOut r) s = .next s := by
  show execWaitingLateFailureCarriedOut r s = _
  unfold execWaitingLateFailureCarriedOut
  rw [if_pos (by simpa using h)]

theorem exec_waitingLateFailureCarriedOut_settles {w : WaitingFailure} (waits : (s.route r).waiting = some w)
    (free : s.routeOnWires r = false) :
    exec (.waitingLateFailureCarriedOut r) s = .next ((s.waitingSettled r).selectForRoute r) := by
  show execWaitingLateFailureCarriedOut r s = _
  unfold execWaitingLateFailureCarriedOut
  rw [if_neg (by simp [waits, free]), State.settleWaiting_eq free]

end

/-- Settles O49: by whether a failure waits and the wires are free of its route, then by the session; the selection that
follows reads the configuration and the engines, which the settling keeps. -/
theorem waitingLateFailureIsSettled : Obligations.WaitingLateFailureIsSettled := by
  refine ⟨fun s r => ⟨fun nothing => ?_, fun w waits alone stays => ?_⟩,
    fun s r => ⟨fun nothing => ?_, fun free => ?_⟩⟩
  · exact exec_waitingLateFailureCarriedOut_nothing (nothing.imp_right State.routeOnWires_iff.2)
  · have free : s.routeOnWires r = false :=
      State.routeOnWires_false_iff.2 fun j member route => absurd route (alone j member)
    have runs := exec_waitingLateFailureCarriedOut_settles waits free
    rw [State.waitingSettled_stays free stays] at runs
    refine ⟨fun closing => ?_, fun opened => ⟨_, runs, ?_⟩⟩
    · rw [runs, State.waitingSettled_closing waits closing]
    · rw [State.waitingSettled_alone waits opened alone]
      exact State.offer_eq ..
  · rcases nothing with unheld | busy
    · exact State.settleWaiting_none unheld
    · exact State.settleWaiting_busy (State.routeOnWires_iff.2 busy)
  · have free := State.routeOnWires_false_iff.2 free
    refine ⟨State.settleWaiting_eq free, fun w rc waits config => ?_⟩
    rw [exec_waitingLateFailureCarriedOut_settles waits free,
      State.selectForRoute_configured ((State.waitingSettled_config r).trans config)]

end Sys2Proof.Machine
end

section
/-! SUPPORT. The presence judgement (08): one change of PRESENCE with its notice, the changes of one outcome, and what
commutes with an offer (R135 to R139, R142). -/

namespace Sys2Proof.Machine

/-! ### An offer changes no route, no reply and no take, and none of these changes what it does -/

/-- A route set to what it is. -/
theorem State.setRoute_route (s : State) (r : RouteId) : s.setRoute r (s.route r) = s := by
  simp [State.setRoute, State.route]

section
variable (s : State) (x : NoticeBody)

theorem State.setRoute_offer (r : RouteId) (v : Route) : (s.offer x).setRoute r v = (s.setRoute r v).offer x := by
  unfold State.offer
  simp only [apply_ite fun t : State => t.setRoute r v]
  rfl

theorem State.answer_offer (f : Frame) (payload : List Byte) :
    (s.offer x).answer f payload = (s.answer f payload).offer x := by
  unfold State.offer
  simp only [apply_ite fun t : State => t.answer f payload]
  rfl

theorem State.endTake_offer : (s.offer x).endTake = s.endTake.offer x := by
  unfold State.offer
  simp only [apply_ite State.endTake]
  rfl

end

section
variable {s : State} (opened : s.session = .opened) (x : NoticeBody)
include opened

/-- In OPEN, an offer joins a queue of fewer than 16 notices with the next SEQ (R164, R169). -/
theorem State.offer_enqueued (room : s.notices.length < 16) : s.offer x = { s with
    notices := s.notices ++ [⟨s.nextSeq, s.dropped, false, x⟩]
    nextSeq := if s.nextSeq < 65535 then s.nextSeq + 1 else 1
    dropped := 0
    attnLow := decide (s.credits = 0) } := by
  rw [State.offer_afterOffer, State.afterOffer, if_neg (not_not.2 opened), if_neg (Nat.not_le.2 room)]

/-- In OPEN, an offer to a queue of 16 notices is dropped and counted (R164). -/
theorem State.offer_dropped (full : 16 ≤ s.notices.length) :
    s.offer x = { s with dropped := min (s.dropped + 1) 255 } := by
  rw [State.offer_afterOffer, State.afterOffer, if_neg (not_not.2 opened), if_pos full]

end

/-! ### One change of PRESENCE (R139) -/

section
variable {s : State} {r : RouteId} {c : RouteConfig}

theorem Route.notifies_configured {rt : Route} (config : rt.config = some c) : rt.notifies = c.notify := by
  rw [Route.notifies, config]

/-- On a configured route a change sets PRESENCE, and offers its notice if NOTIFY is on. -/
theorem State.changePresence_configured (config : (s.route r).config = some c) (cause : Option Status)
    (new : Presence) : s.changePresence r cause new =
      if c.notify then (s.setRoute r { s.route r with presence := new }).offer
        (.presence r (s.route r).presence new cause)
      else s.setRoute r { s.route r with presence := new } := by
  rw [State.changePresence, Route.notifies_configured config]

/-- A judgement started afresh is UNKNOWN with both streaks 0; its notice is offered if the state changed and NOTIFY is
on (R139, R142). -/
theorem State.resetPresence_configured (config : (s.route r).config = some c) : s.resetPresence r =
    if c.notify = false ∨ (s.route r).presence = .unknown then
      s.setRoute r { s.route r with presence := .unknown, goodStreak := 0, badStreak := 0 }
    else (s.setRoute r { s.route r with presence := .unknown, goodStreak := 0, badStreak := 0 }).offer
      (.presence r (s.route r).presence .unknown none) := by
  unfold State.resetPresence
  by_cases known : (s.route r).presence = .unknown
  · rw [if_pos known, if_pos (.inr known), ← known]
  · have cleared : ((s.setRoute r { s.route r with goodStreak := 0, badStreak := 0 }).route r).config = some c := by
      rw [State.route_setRoute_self, config]
    simp only [if_neg known, State.changePresence_configured cleared, State.route_setRoute_self,
      State.setRoute_setRoute]
    cases c.notify <;> simp [known]

/-! ### The changes of one outcome (R136 to R138) -/

/-- The changes of PRESENCE that lead from one state to another: SUSPECT stands between ABSENT and PRESENT (R137). -/
def presencePath (old new : Presence) : List Presence :=
  if new = old then []
  else if old = .absent ∧ new = .present ∨ old = .present ∧ new = .absent then [.suspect, new]
  else [new]

/-- The notices of a change of PRESENCE are offered, one for each change on its path (R138, R139). -/
def State.tellPresence (t : State) (r : RouteId) (notify : Bool) (st : Status) (old new : Presence) : State :=
  if notify = false ∨ new = old then t
  else if old = .absent ∧ new = .present ∨ old = .present ∧ new = .absent then
    (t.offer (.presence r old .suspect (some st))).offer (.presence r .suspect new (some st))
  else t.offer (.presence r old new (some st))

/-- PRESENCE after a good outcome, `good` being the good streak after it (R137). -/
def RouteConfig.afterGood (c : RouteConfig) (good : Nat) : Presence → Presence
  | .unknown => if good = c.qualify then .present else .unknown
  | .present => .present
  | .suspect => if good = c.qualify then .present else .suspect
  | .absent => if good = c.qualify then .present else .suspect

/-- PRESENCE after a bad outcome, `bad` being the bad streak after it (R137). -/
def RouteConfig.afterBad (c : RouteConfig) (bad : Nat) : Presence → Presence
  | .unknown => if bad = c.drop then .absent else .unknown
  | .present => if bad = c.drop then .absent else .suspect
  | .suspect => if bad = c.drop then .absent else .suspect
  | .absent => .absent

/-- A good outcome changes nothing in PRESENT, and elsewhere leads as far as the good streak allows (R137, R138). -/
theorem presenceChanges_good (good bad : Nat) (old : Presence) :
    presenceChanges c good bad old .good = presencePath old (c.afterGood good old) := by
  cases old with
  | present => rfl
  | unknown | suspect | absent =>
    by_cases qualified : good = c.qualify <;>
      simp [presenceChanges, nextPresence, presencePath, RouteConfig.afterGood, qualified]

/-- A bad outcome changes nothing in ABSENT, and elsewhere leads as far as the bad streak allows (R137, R138). -/
theorem presenceChanges_bad (good bad : Nat) (old : Presence) :
    presenceChanges c good bad old .bad = presencePath old (c.afterBad bad old) := by
  cases old with
  | absent => rfl
  | unknown | present | suspect =>
    by_cases dropped : bad = c.drop <;>
      simp [presenceChanges, nextPresence, presencePath, RouteConfig.afterBad, dropped]

/-- The changes on a path, made one after another, come to the last of them and the notices of all. -/
theorem State.changePresence_path (config : (s.route r).config = some c) (st : Status) (new : Presence) :
    (presencePath (s.route r).presence new).foldl (fun s p => s.changePresence r (some st) p) s =
      (s.setRoute r { s.route r with presence := new }).tellPresence r c.notify st (s.route r).presence new := by
  unfold presencePath State.tellPresence
  by_cases same : new = (s.route r).presence
  · rw [if_pos same, if_pos (.inr same), same]
    exact (s.setRoute_route r).symm
  by_cases through : (s.route r).presence = .absent ∧ new = .present ∨ (s.route r).presence = .present ∧ new = .absent
  · have between : ((s.changePresence r (some st) .suspect).route r) = { s.route r with presence := .suspect } := by
      rw [State.route_changePresence, if_pos rfl]
    have suspected : ((s.changePresence r (some st) .suspect).route r).config = some c := by rw [between, config]
    rw [if_neg same, if_pos through, if_pos through, List.foldl_cons, List.foldl_cons, List.foldl_nil,
      State.changePresence_configured suspected, between, State.changePresence_configured config]
    cases c.notify <;> simp [same, State.setRoute_offer, State.setRoute_setRoute]
  · rw [if_neg same, if_neg through, if_neg through, List.foldl_cons, List.foldl_nil,
      State.changePresence_configured config]
    cases c.notify <;> simp [same]

/-- One outcome on a configured route moves its streaks, and then makes the changes of its row (R136, R137). -/
theorem State.presenceOutcome_configured {st : Status} {acked : Bool} {rt : Route}
    (config : (s.route r).config = some c) (moved : (s.route r).moveStreaks (classify st acked) = rt) :
    s.presenceOutcome r st acked =
      (presenceChanges c rt.goodStreak rt.badStreak rt.presence (classify st acked)).foldl
        (fun s p => s.changePresence r (some st) p) (s.setRoute r rt) := by
  have kept : rt.config = some c := by rw [← moved, Route.moveStreaks_config, config]
  simp only [State.presenceOutcome, moved, kept]

/-- One outcome whose changes follow a path comes to its end, with its notices. -/
theorem State.presenceOutcome_path {st : Status} {acked : Bool} {rt : Route} {new : Presence}
    (config : (s.route r).config = some c) (moved : (s.route r).moveStreaks (classify st acked) = rt)
    (path : presenceChanges c rt.goodStreak rt.badStreak rt.presence (classify st acked) =
      presencePath rt.presence new) :
    s.presenceOutcome r st acked =
      (s.setRoute r { rt with presence := new }).tellPresence r c.notify st rt.presence new := by
  have kept : ((s.setRoute r rt).route r).config = some c := by
    rw [State.route_setRoute_self, ← moved, Route.moveStreaks_config, config]
  have changes := State.changePresence_path kept st new
  simp only [State.route_setRoute_self, State.setRoute_setRoute] at changes
  rw [State.presenceOutcome_configured config moved, path, changes]

end

/-! ### PRESENCE_RESET on a configured route -/

theorem State.answer_resetPresence {s : State} {r : RouteId} {c : RouteConfig} (config : (s.route r).config = some c)
    (f : Frame) (payload : List Byte) :
    ((s.resetPresence r).answer f payload).endTake = (s.answer f payload).endTake.resetPresence r := by
  have kept : ((s.answer f payload).endTake.route r).config = some c := config
  rw [State.resetPresence_configured config, State.resetPresence_configured kept,
    apply_ite fun t : State => (t.answer f payload).endTake, State.answer_offer, State.endTake_offer]
  rfl

/-- On a configured route the request is answered with the PRESENCE before, and the judgement starts afresh (R142). -/
theorem Asks.resets_presence {s : State} {f : Frame} {rest : List Frame} {r : RouteId} {c : RouteConfig}
    (h : Asks s f rest .presenceReset) (opened : s.session = .opened) (formed : readRoute f.payload = some r)
    (config : (s.route r).config = some c) : exec .presenceReset s =
      .next ((s.afterReply rest ⟨0x94, f.tag, [0x00, byte r.val, (s.route r).presence.code]⟩).resetPresence r) := by
  have configured : (s.route r).configured = true := by rw [Route.configured, config, Option.isSome_some]
  have acts : (s.taken f rest).presenceReset f r = ((s.taken f rest).resetPresence r).answer f
      [Status.code .ok, byte r.val, (s.route r).presence.code] := if_pos configured
  refine congrArg Host.Outcome.next ((h.act_open opened (by decide) rfl readRoute State.presenceReset formed).trans ?_)
  rw [acts, State.answer_resetPresence (s := s.taken f rest) config, h.ready.answered, h.kind]
  rfl

end Sys2Proof.Machine
end

section
/-! The statements about presence qualification, settled (R135 to R142). -/

namespace Sys2Proof.Machine

/-- Settles O23: by whether the route is configured; the notice offered joins the queue or is dropped by its length. -/
theorem presenceResetStartsAfresh : Obligations.PresenceResetStartsAfresh := by
  intro f rest r s asks opened payload
  have formed : readRoute f.payload = some r := by rw [payload, readRoute_byte]
  have loud {c : RouteConfig} (notify : c.notify = true) (known : (s.route r).presence ≠ .unknown) :
      ¬ (c.notify = false ∨ (s.route r).presence = .unknown) := by simp [notify, known]
  refine ⟨fun free => ?_, fun c config silent => ?_, fun c config notify known room => ?_,
    fun c config notify known full => ?_⟩
  · have unconfigured : ¬ (s.route r).configured = true := by rw [Route.configured, free]; decide
    have acts : (s.taken f rest).presenceReset f r = (s.taken f rest).refuse f .badRoute := if_neg unconfigured
    exact congrArg Host.Outcome.next (asks.answers opened (by decide) rfl formed acts)
  · rw [asks.resets_presence opened formed config]
    exact congrArg Host.Outcome.next ((State.resetPresence_configured (s := s.afterReply rest _) config).trans
      (if_pos silent))
  · rw [asks.resets_presence opened formed config]
    exact congrArg Host.Outcome.next ((State.resetPresence_configured (s := s.afterReply rest _) config).trans
      ((if_neg (loud notify known)).trans (State.offer_enqueued (s := (s.afterReply rest _).setRoute r _) opened _ room)))
  · rw [asks.resets_presence opened formed config]
    exact congrArg Host.Outcome.next ((State.resetPresence_configured (s := s.afterReply rest _) config).trans
      ((if_neg (loud notify known)).trans (State.offer_dropped (s := (s.afterReply rest _).setRoute r _) opened _ full)))

/-- Settles O24: the classes status by status; a good or a bad outcome moves the streaks and follows the path of its
row in the table. -/
theorem outcomesMoveTheJudgement : Obligations.OutcomesMoveTheJudgement := by
  refine ⟨⟨by decide, by decide, by decide, by decide⟩, fun s r c st acked config =>
    ⟨State.presenceOutcome_neutral, fun isGood => ?_, fun isBad => ?_⟩⟩
  · have moved : (s.route r).moveStreaks (classify st acked) =
        { s.route r with goodStreak := min ((s.route r).goodStreak + 1) 8, badStreak := 0 } := by
      rw [isGood]
      rfl
    exact State.presenceOutcome_path config moved (by rw [isGood]; exact presenceChanges_good ..)
  · have moved : (s.route r).moveStreaks (classify st acked) =
        { s.route r with goodStreak := 0, badStreak := min ((s.route r).badStreak + 1) 8 } := by
      rw [isBad]
      rfl
    exact State.presenceOutcome_path config moved (by rw [isBad]; exact presenceChanges_bad ..)

end Sys2Proof.Machine
end

section
/-! SUPPORT. The watch scheduler (09): the tick of a watch, the expiry of its countdown, the value of a poll under the
masks, and the CHANGE notices it offers. -/

namespace Sys2Proof.Machine

/-! ### The watch table -/

theorem State.setWatch_setWatch (s : State) (w : WatchId) (v x : Watch) :
    (s.setWatch w v).setWatch w x = s.setWatch w x := by
  simp [State.setWatch]

/-- A watch after one ms: its countdown falls while it is armed (R148). -/
theorem State.tick_watch (s : State) (w : WatchId) : s.tick.watch w = (s.watch w).tick :=
  mapTable_getElem Watch.tick s.watches w.val w.isLt

/-! ### WATCH_SET and WATCH_CLEAR -/

/-- The notices sealed for one watch are its CHANGE notices (R151, R152, R166). -/
theorem Notice.seal_watch (w : WatchId) (n : Notice) : n.seal (· == w) = match n.body with
    | .change x => if x.watch = w then { n with sealed := true } else n
    | _ => n := by
  rw [Notice.seal_eq]
  cases n.body <;> simp only [beq_iff_eq]

/-- A request taken in OPEN whose action sets a watch, seals its CHANGE notice and answers. -/
theorem Asks.sets_watch {α : Type} {s : State} {f : Frame} {rest : List Frame} {k : Kind} (h : Asks s f rest k)
    (opened : s.session = .opened) (hk : k ≠ .openSession) (hd : k.deferrable = false) {form : List Byte → Option α}
    {act : State → Frame → α → State} {a : α} (formed : form f.payload = some a) {w : WatchId} {v : Watch}
    {payload : List Byte}
    (acts : act (s.taken f rest) f a = (((s.taken f rest).setWatch w v).sealChanges (· == w)).answer f payload) :
    s.request k form act =
      ((s.afterReply rest ⟨k.code + 0x80, f.tag, payload⟩).sealChanges (· == w)).setWatch w v := by
  rw [h.act_open opened hk hd form act formed, acts, ← h.kind, ← h.ready.answered]
  rfl

/-- A watch set while no poll of it is out (R151). -/
theorem Watch.configure_eq {x : Watch} (idle : x.pollOut = false) (c : WatchConfig) :
    x.configure c =
      ⟨some c, nextGeneration x.generation, c.enabled, if c.enabled then c.period else 0, none, 0, false⟩ := by
  rw [Watch.configure, idle]

/-- A watch cleared while no poll of it is out (R152). -/
theorem Watch.cleared_eq {x : Watch} (idle : x.pollOut = false) :
    x.cleared = ⟨none, nextGeneration x.generation, false, 0, none, 0, false⟩ := by
  rw [Watch.cleared, idle]

/-- WATCH_SET refuses a free route, and then a watch whose poll is out (R150). -/
theorem State.watchSet_badRoute {t : State} {c : WatchConfig} (free : (t.route c.route).config = none) (f : Frame)
    (w : WatchId) : t.watchSet f (w, c) = t.refuse f .badRoute := by
  simp [State.watchSet, Route.configured, free]

theorem State.watchSet_busy {t : State} {w : WatchId} {c : WatchConfig} (routed : (t.route c.route).config ≠ none)
    (busy : (t.watch w).pollOut = true) (f : Frame) : t.watchSet f (w, c) = t.refuse f .watchBusy := by
  simp [State.watchSet, Route.configured_iff.2 routed, busy]

theorem State.watchSet_accepted {t : State} {w : WatchId} {c : WatchConfig} (routed : (t.route c.route).config ≠ none)
    (idle : (t.watch w).pollOut = false) (f : Frame) : t.watchSet f (w, c) =
      ((t.setWatch w ((t.watch w).configure c)).sealChanges (· == w)).answer f
        [Status.code .ok, byte w.val, byte (nextGeneration (t.watch w).generation)] := by
  simp [State.watchSet, Route.configured_iff.2 routed, idle]

/-- WATCH_CLEAR refuses a free watch, and then one whose poll is out (R152). -/
theorem State.watchClear_notFound {t : State} {w : WatchId} (free : (t.watch w).config = none) (f : Frame) :
    t.watchClear f w = t.refuse f .notFound := by
  simp [State.watchClear, free]

theorem State.watchClear_busy {t : State} {w : WatchId} (configured : (t.watch w).config ≠ none)
    (busy : (t.watch w).pollOut = true) (f : Frame) : t.watchClear f w = t.refuse f .watchBusy := by
  simp [State.watchClear, configured, busy]

theorem State.watchClear_accepted {t : State} {w : WatchId} (configured : (t.watch w).config ≠ none)
    (idle : (t.watch w).pollOut = false) (f : Frame) : t.watchClear f w =
      ((t.setWatch w (t.watch w).cleared).sealChanges (· == w)).answer f
        [Status.code .ok, byte w.val, byte (nextGeneration (t.watch w).generation)] := by
  simp [State.watchClear, configured, idle]

/-! ### Expiry -/

section
variable {s : State} {w : WatchId} {c : WatchConfig} {rc : RouteConfig}

/-- The expiry of a free or unarmed watch, or of one with ms remaining, does nothing (logs 1, 3). -/
theorem exec_watchCountdownExpires_nothing
    (h : (s.watch w).config = none ∨ (s.watch w).armed = false ∨ 0 < (s.watch w).countdown) :
    exec (.watchCountdownExpires w) s = .next s := by
  rw [exec_watchCountdownExpires, execWatchCountdownExpires]
  cases config : (s.watch w).config with
  | none => rfl
  | some c =>
    have notDue : ¬ ((s.watch w).armed = true ∧ (s.watch w).countdown = 0) := by
      rintro ⟨armed, zero⟩
      rcases h with free | unarmed | remaining
      · rw [config] at free
        cases free
      · rw [armed] at unarmed
        cases unarmed
      · omega
    exact congrArg Host.Outcome.next (if_neg notDue)

theorem exec_watchCountdownExpires_due (config : (s.watch w).config = some c) (armed : (s.watch w).armed = true)
    (zero : (s.watch w).countdown = 0) : exec (.watchCountdownExpires w) s = .next (s.countdownExpires w c) := by
  rw [exec_watchCountdownExpires, execWatchCountdownExpires, config]
  exact congrArg Host.Outcome.next (if_pos ⟨armed, zero⟩)

/-- No poll is planned while one is out, on a held route, on a branch that is down, or with no free slot (R154). -/
theorem State.pollPlan_none {x : Watch} (config : (s.route c.route).config = some rc)
    (h : x.pollOut = true ∨ (s.route c.route).hold ≠ none ∨ (s.branch rc.branch).down = true ∨ s.freeSlot = none) :
    s.pollPlan x c = none := by
  rw [State.pollPlan, config]
  cases slot : s.freeSlot with
  | none => rfl
  | some n =>
    refine if_pos ?_
    rcases h with out | held | down | full
    · simp [out]
    · simp [Route.held_iff.2 held]
    · simp [down]
    · rw [slot] at full
      cases full

/-- Otherwise a poll is planned in the free slot. -/
theorem State.pollPlan_some {x : Watch} {slot : SlotId} (config : (s.route c.route).config = some rc)
    (idle : x.pollOut = false) (unheld : (s.route c.route).hold = none) (up : (s.branch rc.branch).down = false)
    (free : s.freeSlot = some slot) : s.pollPlan x c = some (slot, rc) := by
  simp [State.pollPlan, config, idle, Route.held, unheld, up, free]

/-- The countdown restarts and MISSED rises where no poll is planned (R154). -/
theorem State.countdownExpires_missed (plan : s.pollPlan (s.watch w) c = none) : s.countdownExpires w c =
    s.setWatch w { s.watch w with countdown := c.period, missed := min ((s.watch w).missed + 1) 255 } := by
  have plan' : (s.setWatch w { s.watch w with countdown := c.period }).pollPlan
      { s.watch w with countdown := c.period } c = none := plan
  unfold State.countdownExpires
  simp only [State.watch_setWatch_self, plan']
  rw [State.countMissed, State.setWatch_setWatch, State.watch_setWatch_self]
  rfl

/-- The countdown restarts and a poll is made where one is planned (R155). -/
theorem State.countdownExpires_polls {slot : SlotId} (plan : s.pollPlan (s.watch w) c = some (slot, rc)) :
    s.countdownExpires w c =
      (((s.setWatch w { s.watch w with countdown := c.period, pollOut := true }).jobJoins c.route).acceptJob
        (newJob slot s.now (.watch w) (some c.route) rc.branch (if c.lead = [] then .read else .writeRead) c.lead
          c.length false none rc.deadline)) := by
  have plan' : (s.setWatch w { s.watch w with countdown := c.period }).pollPlan
      { s.watch w with countdown := c.period } c = some (slot, rc) := plan
  unfold State.countdownExpires
  simp only [State.watch_setWatch_self, plan']
  rw [State.makePoll, State.setWatch_setWatch, State.watch_setWatch_self]
  simp only [List.isEmpty_iff]
  rfl

end

/-! ### The value of a poll -/

/-- A bit of the changed mask is set just where it rose and is in RISE_MASK, or fell and is in FALL_MASK (R158). -/
theorem changedByte_getLsbD (old new rise fall : Byte) (i : Nat) : (changedByte old new rise fall).getLsbD i =
    ((!old.getLsbD i && new.getLsbD i && rise.getLsbD i) || (old.getLsbD i && !new.getLsbD i && fall.getLsbD i)) := by
  by_cases inside : i < 8
  · simp [changedByte, inside]
  · have outside (b : Byte) : b.getLsbD i = false := BitVec.getLsbD_of_ge b i (Nat.not_lt.1 inside)
    simp [outside]

/-- The changed mask is made byte by byte (R158). -/
theorem changedMask_getElem? {o n r f : Byte} : ∀ {old new rise fall : List Byte} {k : Nat}, old[k]? = some o →
    new[k]? = some n → rise[k]? = some r → fall[k]? = some f →
    (changedMask old new rise fall)[k]? = some (changedByte o n r f)
  | [], _, _, _, _, ho, _, _, _ => nomatch ho
  | _ :: _, [], _, _, _, _, hn, _, _ => nomatch hn
  | _ :: _, _ :: _, [], _, _, _, _, hr, _ => nomatch hr
  | _ :: _, _ :: _, _ :: _, [], _, _, _, _, hf => nomatch hf
  | _ :: _, _ :: _, _ :: _, _ :: _, 0, ho, hn, hr, hf => by
    cases ho
    cases hn
    cases hr
    cases hf
    rfl
  | _ :: os, _ :: ns, _ :: rs, _ :: fs, k + 1, ho, hn, hr, hf =>
    changedMask_getElem? (old := os) (new := ns) (rise := rs) (fall := fs) (k := k) ho hn hr hf

section
variable {s : State} {w : WatchId} {c : WatchConfig} {st : Status} {value : List Byte}

/-- A first value is stored, and offered if REPORT_FIRST asks for it (R158). -/
theorem State.comparePoll_first (first : (s.watch w).lastValue = none) :
    s.comparePoll w c value =
      if c.reportFirst then (s.setWatch w { s.watch w with lastValue := some value }).offerChange
        ⟨w, (s.watch w).generation, c.route, none, value, List.replicate c.length 0, 1, (s.watch w).missed⟩
      else s.setWatch w { s.watch w with lastValue := some value } := by
  simp only [State.comparePoll, first]

/-- A later value is stored, and offered if its changed mask has a bit set (R158). -/
theorem State.comparePoll_later {old : List Byte} (stored : (s.watch w).lastValue = some old) :
    s.comparePoll w c value =
      if ∃ m ∈ changedMask old value c.riseMask c.fallMask, m ≠ 0 then
        (s.setWatch w { s.watch w with lastValue := some value }).offerChange ⟨w, (s.watch w).generation, c.route,
          some old, value, changedMask old value c.riseMask c.fallMask, 1, (s.watch w).missed⟩
      else s.setWatch w { s.watch w with lastValue := some value } := by
  simp only [State.comparePoll, stored, List.any_eq_true, bne_iff_ne]

/-- The end of a poll of a configured watch: POLL_OUT is cleared, and in OPEN the value of an OK poll is compared
(R157). -/
theorem State.pollEnds_configured (config : (s.watch w).config = some c) : s.pollEnds w st value =
    if s.session = .opened ∧ st = .ok then (s.clearPollOut w).comparePoll w c value else s.clearPollOut w := by
  have kept : ((s.clearPollOut w).watch w).config = some c := by
    rw [State.clearPollOut, State.watch_setWatch_self, config]
  simp only [State.pollEnds, kept]
  rfl

theorem State.pollEnds_silent (config : (s.watch w).config = some c) (silent : s.session ≠ .opened ∨ st ≠ .ok) :
    s.pollEnds w st value = s.setWatch w { s.watch w with pollOut := false } :=
  (State.pollEnds_configured config).trans (if_neg fun ⟨opened, ok⟩ => silent.elim (· opened) (· ok))

theorem State.pollEnds_ok (config : (s.watch w).config = some c) (opened : s.session = .opened) :
    s.pollEnds w .ok value = (s.clearPollOut w).comparePoll w c value :=
  (State.pollEnds_configured config).trans (if_pos ⟨opened, rfl⟩)

end

/-! ### The offer of a CHANGE -/

theorem Notice.openChangeOf_iff {w : WatchId} {n : Notice} :
    n.openChangeOf w = true ↔ ∃ y, n.body = .change y ∧ n.sealed = false ∧ y.watch = w := by
  unfold Notice.openChangeOf
  cases n.body <;> simp

/-- A notice under a merge: the watch's unsealed CHANGE takes it, and any other stays (R159, R165). -/
theorem Notice.mergeChange_eq (x : ChangeBody) (n : Notice) : n.mergeChange x = match n.body with
    | .change y => if n.sealed = false ∧ y.watch = x.watch then { n with body := .change (y.merge x) } else n
    | _ => n := by
  unfold Notice.mergeChange Notice.openChangeOf
  cases n.body <;> simp

section
variable {s : State} {x : ChangeBody} (opened : s.session = .opened)
include opened

theorem State.offerChange_merged (waiting : s.notices.any (Notice.openChangeOf x.watch) = true) :
    s.offerChange x = State.setWatch { s with notices := s.notices.map (Notice.mergeChange x) } x.watch
      { s.watch x.watch with missed := 0 } := by
  rw [State.offerChange, if_pos opened, if_pos waiting]
  rfl

variable (alone : ¬ s.notices.any (Notice.openChangeOf x.watch) = true)
include alone

/-- With no CHANGE of the watch to merge into and the queue full, a CHANGE is offered as any notice is (R164). -/
theorem State.offerChange_full (full : 16 ≤ s.notices.length) : s.offerChange x = s.offer (.change x) := by
  have full' : Config.noticeQueueMax ≤ s.notices.length := full
  rw [State.offerChange, State.offer, if_pos opened, if_pos opened, if_neg alone, if_pos full', if_pos full']

/-- With room in the queue the watch's MISSED is handed on as well (R159). -/
theorem State.offerChange_room (room : s.notices.length < 16) : s.offerChange x =
    (s.offer (.change x)).setWatch x.watch { s.watch x.watch with missed := 0 } := by
  have room' : ¬ Config.noticeQueueMax ≤ s.notices.length := Nat.not_le.2 room
  rw [State.offerChange, State.offer, if_pos opened, if_pos opened, if_neg alone, if_neg room', if_neg room']
  rfl

end

end Sys2Proof.Machine
end

section
/-! The statements about the watch list, settled (R146 to R166, and the ms that passes). -/

namespace Sys2Proof.Machine

/-- Settles O2: each watch of the state after the tick is the watch before it, ticked. -/
theorem emptyQueueLetsOneMsPass : Obligations.EmptyQueueLetsOneMsPass := by
  intro s empty
  refine ⟨s.tick, ?_, rfl, s.tick_watch⟩
  rw [step, empty]

/-- Settles O35: the checks of each command one after another, and then the watch and the notices as it leaves them. -/
theorem watchSetAndClear : Obligations.WatchSetAndClear := by
  have sealed (w : WatchId) (l : List Notice) : l.map (Notice.seal (· == w)) = l.map fun n => match n.body with
      | .change x => if x.watch = w then { n with sealed := true } else n
      | _ => n := List.map_congr_left fun n _ => n.seal_watch w
  refine ⟨fun f rest w c s asks opened range payload => ?_, fun f rest w s asks opened payload => ?_⟩
  · have formed : readWatchSet f.payload = some (w, c) := by rw [payload, readWatchSet_bytes range]
    refine ⟨fun free => ?_, fun routed busy => ?_, fun routed idle => ?_⟩
    · exact congrArg Host.Outcome.next (asks.answers opened (by decide) rfl formed
        (State.watchSet_badRoute (t := s.taken f rest) free f w))
    · exact congrArg Host.Outcome.next (asks.answers opened (by decide) rfl formed
        (State.watchSet_busy (t := s.taken f rest) routed busy f))
    · refine congrArg Host.Outcome.next ((asks.sets_watch opened (by decide) rfl formed
        (State.watchSet_accepted (t := s.taken f rest) routed idle f)).trans ?_)
      have watch : (s.taken f rest).watch w = s.watch w := rfl
      rw [watch, Watch.configure_eq idle, State.sealChanges, sealed]
      rfl
  · have formed : readWatch f.payload = some w := by rw [payload, readWatch_byte]
    refine ⟨fun free => ?_, fun configured busy => ?_, fun configured idle => ?_⟩
    · exact congrArg Host.Outcome.next (asks.answers opened (by decide) rfl formed
        (State.watchClear_notFound (t := s.taken f rest) free f))
    · exact congrArg Host.Outcome.next (asks.answers opened (by decide) rfl formed
        (State.watchClear_busy (t := s.taken f rest) configured busy f))
    · refine congrArg Host.Outcome.next ((asks.sets_watch opened (by decide) rfl formed
        (State.watchClear_accepted (t := s.taken f rest) configured idle f)).trans ?_)
      have watch : (s.taken f rest).watch w = s.watch w := rfl
      rw [watch, Watch.cleared_eq idle, State.sealChanges, sealed]
      rfl

/-- Settles O36: by whether `State.pollPlan` finds a slot and a route to poll. -/
theorem expiryPollsOrMisses : Obligations.ExpiryPollsOrMisses := by
  intro w s law
  refine ⟨exec_watchCountdownExpires_nothing, fun c rc config armed zero routed =>
    ⟨fun missed => ?_, fun idle unheld up room => ?_⟩⟩
  · have plan : s.pollPlan (s.watch w) c = none :=
      State.pollPlan_none routed (missed.imp_right (Or.imp_right (Or.imp_right law.freeSlot_full)))
    rw [exec_watchCountdownExpires_due config armed zero, State.countdownExpires_missed plan]
  · obtain ⟨slot, free⟩ := State.freeSlot_of_room room
    refine ⟨slot, State.freeSlot_some free, ?_⟩
    rw [exec_watchCountdownExpires_due config armed zero,
      State.countdownExpires_polls (State.pollPlan_some routed idle unheld up free)]
    rfl

/-- Settles O50: by the session, the status and LAST_VALUE; the mask byte by byte and bit by bit. -/
theorem pollValueIsCompared : Obligations.PollValueIsCompared := by
  refine ⟨fun s w c st value config => ?_, fun old new rise fall k o n r f i ho hn hr hf =>
    ⟨_, changedMask_getElem? ho hn hr hf, changedByte_getLsbD o n r f i⟩⟩
  have cleared : (s.clearPollOut w).watch w = { s.watch w with pollOut := false } := s.watch_setWatch_self w _
  have stored : (s.clearPollOut w).setWatch w { s.watch w with pollOut := false, lastValue := some value } =
      s.setWatch w { s.watch w with pollOut := false, lastValue := some value } := s.setWatch_setWatch w _ _
  refine ⟨State.pollEnds_silent config, ?_, ?_⟩
  · rintro opened rfl first
    have first' := (congrArg Watch.lastValue cleared).trans first
    rw [State.pollEnds_ok config opened, State.comparePoll_first first', cleared, stored]
  · rintro old opened rfl later
    have later' := (congrArg Watch.lastValue cleared).trans later
    rw [State.pollEnds_ok config opened, State.comparePoll_later later', cleared, stored]

/-- Settles O51: by whether the watch has an unsealed CHANGE waiting, and then by the length of the queue. -/
theorem changeIsMergedDroppedOrEnqueued : Obligations.ChangeIsMergedDroppedOrEnqueued := by
  intro s x open_ handedOn
  have waiting : s.notices.any (Notice.openChangeOf x.watch) = true ↔ ∃ n ∈ s.notices, open_ n := by
    simp only [List.any_eq_true, Notice.openChangeOf_iff, open_]
  have noneWaits (alone : ∀ n ∈ s.notices, ¬ open_ n) : ¬ s.notices.any (Notice.openChangeOf x.watch) = true :=
    mt waiting.1 fun ⟨n, hn, h⟩ => alone n hn h
  refine ⟨fun closed => if_neg closed, fun opened merges => ?_, fun opened alone full => ?_,
    fun opened alone room => ?_⟩
  · have merged : s.notices.map (Notice.mergeChange x) = s.notices.map _ :=
      List.map_congr_left fun n _ => n.mergeChange_eq x
    rw [State.offerChange_merged opened (waiting.2 merges), merged]
    rfl
  · rw [State.offerChange_full opened (noneWaits alone) full, State.offer_dropped opened _ full]
  · rw [State.offerChange_room opened (noneWaits alone) room, State.offer_enqueued opened _ room]

end Sys2Proof.Machine
end

section
/-! SUPPORT. The two laws of the notice unit (R161, R162, R167, R169) under the unit's own operations. -/

namespace Sys2Proof.Machine

/-! ### What the two laws speak of -/

/-- The state with the fields blanked that neither law speaks of: what is left is the session, the notice queue, the
credits, NEXT_SEQ, DROPPED and ATTN. -/
def State.noticeUnit (s : State) : State :=
  { State.reset with
    session := s.session
    notices := s.notices
    credits := s.credits
    nextSeq := s.nextSeq
    dropped := s.dropped
    attnLow := s.attnLow }

theorem State.noticeUnit_of_core {s t : State} (h : t.core = s.core) : t.noticeUnit = s.noticeUnit :=
  show t.core.noticeUnit = s.core.noticeUnit from congrArg State.noticeUnit h

theorem State.noticeUnit_of_behind {s t : State} (h : t.behindReceiver = s.behindReceiver) :
    t.noticeUnit = s.noticeUnit :=
  show t.behindReceiver.noticeUnit = s.behindReceiver.noticeUnit from congrArg State.noticeUnit h

theorem AttnLaw.congr {s t : State} (law : AttnLaw s) (unit : t.noticeUnit = s.noticeUnit) : AttnLaw t :=
  show AttnLaw t.noticeUnit from unit ▸ law

theorem NoticeLaw.congr {s t : State} (law : NoticeLaw s) (unit : t.noticeUnit = s.noticeUnit) : NoticeLaw t := by
  have kept : NoticeLaw t.noticeUnit :=
    unit ▸ ⟨law.length, law.oneChange, law.credits, law.dropped, law.nextSeq⟩
  exact ⟨kept.length, kept.oneChange, kept.credits, kept.dropped, kept.nextSeq⟩

/-- ATTN as it is driven follows the law, whatever it was before (R169). -/
theorem attnLaw_driveAttn (s : State) : AttnLaw s.driveAttn := by
  simp [AttnLaw, and_assoc]

/-- SEQ runs from 1 to 65535. -/
theorem nextNumber_range (n : Nat) : 1 ≤ nextNumber n ∧ nextNumber n ≤ 65535 := by
  unfold nextNumber Config.counterMax
  split <;> omega

/-- A merge leaves a notice open to the merges it was open to (R165). -/
theorem Notice.openChangeOf_mergeChange (w : WatchId) (x : ChangeBody) (n : Notice) :
    (n.mergeChange x).openChangeOf w = n.openChangeOf w := by
  unfold Notice.mergeChange
  cases body : n.body with
  | change y =>
    simp only
    split
    · simp only [Notice.openChangeOf, body, ChangeBody.merge]
    · rfl
  | lateFault | presence | branch => rfl

/-- A seal closes a notice to merges, and opens none (R166). -/
theorem Notice.openChangeOf_of_seal {w : WatchId} {p : WatchId → Bool} {n : Notice}
    (h : (n.seal p).openChangeOf w = true) : n.openChangeOf w = true := by
  unfold Notice.seal at h
  split at h
  · split at h
    · obtain ⟨-, -, sealed, -⟩ := Notice.openChangeOf_iff.1 h
      cases sealed
    · exact h
  all_goals exact h

/-! ### The two laws, kept together -/

/-- Each of the two laws of the notice unit that holds in `x` holds in `s` too. -/
structure KeepsNoticeLaws (x s : State) : Prop where
  attn : AttnLaw x → AttnLaw s
  notices : NoticeLaw x → NoticeLaw s

theorem KeepsNoticeLaws.refl (s : State) : KeepsNoticeLaws s s := ⟨id, id⟩

section
variable {x s t : State} (h : KeepsNoticeLaws x s)
include h

/-- What leaves the notice unit alone. -/
theorem KeepsNoticeLaws.same (unit : t.noticeUnit = s.noticeUnit) : KeepsNoticeLaws x t :=
  ⟨fun law => (h.attn law).congr unit, fun law => (h.notices law).congr unit⟩

/-- The session takes a state, and ATTN follows. -/
theorem KeepsNoticeLaws.enterSession (y : Session) : KeepsNoticeLaws x (s.enterSession y) where
  attn _ := attnLaw_driveAttn _
  notices law := by
    obtain ⟨length, oneChange, credits, dropped, nextSeq⟩ := h.notices law
    exact ⟨length, oneChange, credits, dropped, nextSeq⟩

/-- The credits take a value of at most 64, and ATTN follows (R167). -/
theorem KeepsNoticeLaws.setCredits {n : Nat} (cap : n ≤ 64) : KeepsNoticeLaws x (s.setCredits n) where
  attn _ := attnLaw_driveAttn _
  notices law := by
    obtain ⟨length, oneChange, -, dropped, nextSeq⟩ := h.notices law
    exact ⟨length, oneChange, cap, dropped, nextSeq⟩

/-- The queue is emptied, and ATTN follows (R33, R170). -/
theorem KeepsNoticeLaws.emptyNotices : KeepsNoticeLaws x s.emptyNotices where
  attn _ := attnLaw_driveAttn _
  notices law :=
    ⟨Nat.zero_le _, fun _ => Nat.zero_le _, Nat.zero_le _, Nat.zero_le _, (h.notices law).nextSeq⟩

/-- The head notice leaves the queue against a credit (R167). -/
theorem KeepsNoticeLaws.startNotice {n : Notice} {rest : List Notice} (head : s.notices = n :: rest) :
    KeepsNoticeLaws x (s.startNotice n rest) where
  attn _ := attnLaw_driveAttn _
  notices law := by
    obtain ⟨length, oneChange, credits, dropped, nextSeq⟩ := h.notices law
    have shorter : rest.Sublist s.notices := head ▸ List.sublist_cons_self n rest
    exact ⟨shorter.length_le.trans length, fun w => shorter.countP_le.trans (oneChange w),
      (Nat.sub_le _ _).trans credits, dropped, nextSeq⟩

/-- Every waiting notice changed in its place, none being opened to merges. -/
theorem KeepsNoticeLaws.mapNotices {g : Notice → Notice}
    (closed : ∀ w n, (g n).openChangeOf w = true → n.openChangeOf w = true) :
    KeepsNoticeLaws x { s with notices := s.notices.map g } where
  attn law := by simpa [AttnLaw] using h.attn law
  notices law := by
    obtain ⟨length, oneChange, credits, dropped, nextSeq⟩ := h.notices law
    refine ⟨by simpa using length, fun w => ?_, credits, dropped, nextSeq⟩
    rw [List.countP_map]
    exact (List.countP_mono_left fun n _ => closed w n).trans (oneChange w)

/-- A notice joins a queue with room, a CHANGE only where none of its watch is open to merges (R161, R164). -/
theorem KeepsNoticeLaws.enqueueNotice {body : NoticeBody} (room : s.notices.length < 16)
    (alone : ∀ c, body = .change c → ¬ s.notices.any (Notice.openChangeOf c.watch) = true) :
    KeepsNoticeLaws x (s.enqueueNotice body) where
  attn _ := attnLaw_driveAttn _
  notices law := by
    obtain ⟨-, oneChange, credits, -, -⟩ := h.notices law
    refine ⟨?_, fun w => ?_, credits, Nat.zero_le _, nextNumber_range _⟩
    · simpa [State.enqueueNotice] using room
    · have tail : (s.enqueueNotice body).notices = s.notices ++ [⟨s.nextSeq, s.dropped, false, body⟩] := rfl
      rw [tail, List.countP_append, List.countP_singleton]
      split
      next opens =>
        obtain ⟨c, change, -, rfl⟩ := Notice.openChangeOf_iff.1 opens
        have zero : s.notices.countP (Notice.openChangeOf c.watch) = 0 := by
          simpa [List.countP_eq_zero] using alone c change
        omega
      next => exact oneChange w

/-- DROPPED stops at 255 (R162, R164). -/
theorem KeepsNoticeLaws.dropNotice : KeepsNoticeLaws x s.dropNotice where
  attn law := h.attn law
  notices law := by
    obtain ⟨length, oneChange, credits, -, nextSeq⟩ := h.notices law
    exact ⟨length, oneChange, credits, bump_le .., nextSeq⟩

/-- An offer of any notice but a CHANGE (R164). -/
theorem KeepsNoticeLaws.offer {body : NoticeBody} (other : ∀ c, body ≠ .change c) :
    KeepsNoticeLaws x (s.offer body) := by
  unfold State.offer
  split
  · split
    · exact h.dropNotice
    next room => exact h.enqueueNotice (Nat.not_le.1 room) fun c change => absurd change (other c)
  · exact h

/-- An offer of a CHANGE: it is merged where one of its watch is open to it, and otherwise joins the queue alone
(R161, R164, R165). -/
theorem KeepsNoticeLaws.offerChange (c : ChangeBody) : KeepsNoticeLaws x (s.offerChange c) := by
  unfold State.offerChange
  split
  · split
    · have merged := h.mapNotices (g := Notice.mergeChange c) fun w n opens =>
        (n.openChangeOf_mergeChange w c).symm.trans opens
      exact merged.same rfl
    next alone =>
      split
      · exact h.dropNotice
      next room =>
        have queued := h.enqueueNotice (body := .change c) (Nat.not_le.1 room) (by rintro _ ⟨⟩; exact alone)
        exact queued.same rfl
  · exact h

theorem KeepsNoticeLaws.sealChanges (p : WatchId → Bool) : KeepsNoticeLaws x (s.sealChanges p) :=
  h.mapNotices fun _ _ => Notice.openChangeOf_of_seal

end

end Sys2Proof.Machine
end

section
/-! SUPPORT. The laws of the notice unit under presence outcomes, the end of a job, late failures and the engines (R54,
R73, R112 to R127, R139, R158). -/

namespace Sys2Proof.Machine

/-! ### What leaves the notice unit alone -/

theorem State.removeJob_noticeUnit (s : State) (j : Job) : (s.removeJob j).noticeUnit = s.noticeUnit :=
  State.noticeUnit_of_core (s.removeJob_core j)

theorem State.enterRecovery_noticeUnit (s : State) (b : BranchId) (cause : RecoveryCause) :
    (s.enterRecovery b cause).noticeUnit = s.noticeUnit := by
  obtain ⟨v, entered, -⟩ := s.enterRecovery_only b cause
  rw [entered]
  rfl

theorem State.startJob_noticeUnit (s : State) (b : BranchId) (j : Job) :
    (s.startJob b j).noticeUnit = s.noticeUnit := by
  unfold State.startJob
  simp only
  split
  · rfl
  · split
    · exact s.enterRecovery_noticeUnit ..
    · rfl

theorem State.selectIfIdle_noticeUnit (s : State) (b : BranchId) : (s.selectIfIdle b).noticeUnit = s.noticeUnit := by
  unfold State.selectIfIdle
  split
  · split
    · rfl
    · exact s.startJob_noticeUnit ..
  all_goals rfl

theorem State.answerBranchReset_noticeUnit (s : State) (b : BranchId) (st : Status) :
    (s.answerBranchReset b st).noticeUnit = s.noticeUnit := by
  unfold State.answerBranchReset
  split <;> rfl

theorem State.countCloseEnd_noticeUnit (s : State) (j : Job) (st : Status) :
    (s.countCloseEnd j st).noticeUnit = s.noticeUnit := by
  rw [State.countCloseEnd_eq]
  rfl

section
variable {x s : State} (h : KeepsNoticeLaws x s)
include h

/-! ### The tables -/

theorem KeepsNoticeLaws.setRoute (r : RouteId) (v : Route) : KeepsNoticeLaws x (s.setRoute r v) := h.same rfl

theorem KeepsNoticeLaws.setBranch (b : BranchId) (v : Branch) : KeepsNoticeLaws x (s.setBranch b v) := h.same rfl

theorem KeepsNoticeLaws.setWatch (w : WatchId) (v : Watch) : KeepsNoticeLaws x (s.setWatch w v) := h.same rfl

theorem KeepsNoticeLaws.updateJob (j : Job) (f : Job → Job) : KeepsNoticeLaws x (s.updateJob j f) := h.setBranch ..

theorem KeepsNoticeLaws.makeEnding (j : Job) (cause : EndCause) (atBoundary : Bool) :
    KeepsNoticeLaws x (s.makeEnding j cause atBoundary) := (h.updateJob ..).setBranch ..

theorem KeepsNoticeLaws.answer (f : Frame) (payload : List Byte) : KeepsNoticeLaws x (s.answer f payload) := h.same rfl

/-! ### Presence and polls -/

theorem KeepsNoticeLaws.changePresence (r : RouteId) (cause : Option Status) (new : Presence) :
    KeepsNoticeLaws x (s.changePresence r cause new) := by
  unfold State.changePresence
  simp only
  split
  · exact (h.setRoute ..).offer nofun
  · exact h.setRoute ..

theorem KeepsNoticeLaws.presenceOutcome (r : RouteId) (st : Status) (acked : Bool) :
    KeepsNoticeLaws x (s.presenceOutcome r st acked) := by
  unfold State.presenceOutcome
  simp only
  split
  · exact h.setRoute ..
  · exact List.foldlRecOn _ _ (h.setRoute ..) fun _ k p _ => k.changePresence r (some st) p

theorem KeepsNoticeLaws.resetPresence (r : RouteId) : KeepsNoticeLaws x (s.resetPresence r) := by
  unfold State.resetPresence
  simp only
  split
  · exact h.setRoute ..
  · exact (h.setRoute ..).changePresence ..

theorem KeepsNoticeLaws.comparePoll (w : WatchId) (c : WatchConfig) (value : List Byte) :
    KeepsNoticeLaws x (s.comparePoll w c value) := by
  unfold State.comparePoll
  simp only
  split
  all_goals
    split
    · exact (h.setWatch ..).offerChange _
    · exact h.setWatch ..

theorem KeepsNoticeLaws.watchTakes (j : Job) (st : Status) : KeepsNoticeLaws x (s.watchTakes j st) := by
  have cleared (w : WatchId) : KeepsNoticeLaws x (s.clearPollOut w) := h.setWatch ..
  unfold State.watchTakes State.pollEnds
  simp only
  split
  · exact h
  · split
    · exact cleared _
    · split
      · exact (cleared _).comparePoll ..
      · exact cleared _

/-! ### The end of a job, and late failures -/

theorem KeepsNoticeLaws.deliver (j : Job) (st : Status) : KeepsNoticeLaws x (s.deliver j st) := by
  have dropped : KeepsNoticeLaws x (s.dropJob j) := h.setBranch ..
  unfold State.deliver
  cases j.route with
  | none =>
    simp only
    repeat' split
    all_goals exact dropped.same rfl
  | some r =>
    refine KeepsNoticeLaws.presenceOutcome (KeepsNoticeLaws.setRoute ?_ ..) r st _
    repeat' split
    all_goals exact dropped.same rfl

theorem KeepsNoticeLaws.purgeJob (j : Job) : KeepsNoticeLaws x (s.purgeJob j) := by
  unfold State.purgeJob purgeOne
  split
  · exact h.same (s.removeJob_noticeUnit j)
  · exact h.deliver ..
  · exact h.same (s.removeJob_noticeUnit j)

theorem KeepsNoticeLaws.carryOut (r : RouteId) (f : FailedPost) (d : Discards) :
    KeepsNoticeLaws x (s.carryOut r f d) := by
  have purged (v : Route) : KeepsNoticeLaws x ((s.setRoute r v).purge r d).1 := by
    rw [State.purge_fst]
    exact List.foldlRecOn _ _ (h.setRoute r v) fun _ k j _ => k.purgeJob j
  exact ((purged _).setRoute ..).offer nofun

theorem KeepsNoticeLaws.settleWaiting (r : RouteId) : KeepsNoticeLaws x (s.settleWaiting r) := by
  unfold State.settleWaiting
  split
  · exact h
  · split
    · exact h
    · split
      · exact h.carryOut ..
      · exact h.same rfl

theorem KeepsNoticeLaws.settleRouteOf (j : Job) : KeepsNoticeLaws x (s.settleRouteOf j) := by
  unfold State.settleRouteOf
  split
  · exact h
  · exact h.settleWaiting _

theorem KeepsNoticeLaws.lateFailure (r : RouteId) (f : FailedPost) : KeepsNoticeLaws x (s.lateFailure r f) := by
  unfold State.lateFailure
  simp only
  split
  · exact h.setRoute ..
  · exact h.carryOut ..

theorem KeepsNoticeLaws.postedEnds (j : Job) (st : Status) : KeepsNoticeLaws x (s.postedEnds j st) := by
  unfold State.postedEnds
  split
  · split
    · exact h
    · split
      · exact h.lateFailure ..
      · exact h.same rfl
  · exact h

theorem KeepsNoticeLaws.endDelivered (j : Job) (st : Status) : KeepsNoticeLaws x (s.endDelivered j st) :=
  ((h.same (s.countCloseEnd_noticeUnit j st)).deliver j st).postedEnds j st

theorem KeepsNoticeLaws.endJob (j : Job) (st : Status) : KeepsNoticeLaws x (s.endJob j st) :=
  (h.endDelivered j st).watchTakes j st

theorem KeepsNoticeLaws.endOnWires (j : Job) (st : Status) : KeepsNoticeLaws x (s.endOnWires j st) :=
  ((h.endDelivered j st).settleRouteOf j).watchTakes j st

/-! ### The engines -/

theorem KeepsNoticeLaws.enterRecovery (b : BranchId) (cause : RecoveryCause) :
    KeepsNoticeLaws x (s.enterRecovery b cause) := h.same (s.enterRecovery_noticeUnit b cause)

theorem KeepsNoticeLaws.selectIfIdle (b : BranchId) : KeepsNoticeLaws x (s.selectIfIdle b) :=
  h.same (s.selectIfIdle_noticeUnit b)

theorem KeepsNoticeLaws.becomeIdle (b : BranchId) : KeepsNoticeLaws x (s.becomeIdle b) :=
  (h.setBranch b { s.branch b with engine := .idle }).selectIfIdle b

theorem KeepsNoticeLaws.acceptJob (j : Job) : KeepsNoticeLaws x (s.acceptJob j) := by
  have placed : KeepsNoticeLaws x (s.placeInQueue j) := h.setBranch ..
  exact placed.selectIfIdle _

theorem KeepsNoticeLaws.selectForRoute (r : RouteId) : KeepsNoticeLaws x (s.selectForRoute r) := by
  unfold State.selectForRoute
  split
  · exact h
  · exact h.selectIfIdle _

theorem KeepsNoticeLaws.answerBranchReset (b : BranchId) (st : Status) :
    KeepsNoticeLaws x (s.answerBranchReset b st) := h.same (s.answerBranchReset_noticeUnit b st)

theorem KeepsNoticeLaws.recoverySucceeds (b : BranchId) (cause : RecoveryCause) :
    KeepsNoticeLaws x (s.recoverySucceeds b cause) := by
  refine KeepsNoticeLaws.selectIfIdle (KeepsNoticeLaws.answerBranchReset ?_ b .ok) b
  split
  · exact h.setBranch ..
  · exact (h.setBranch ..).offer nofun

theorem KeepsNoticeLaws.drainFirst (j : Job) : KeepsNoticeLaws x (drainFirst s j) := by
  unfold Machine.drainFirst
  split
  · exact h
  · exact h.endJob ..
  · exact h.same (s.removeJob_noticeUnit j)

theorem KeepsNoticeLaws.drainSecond (b : BranchId) (j : Job) : KeepsNoticeLaws x (drainSecond b s j) := by
  unfold Machine.drainSecond
  split
  · exact h.endJob ..
  · exact h

theorem KeepsNoticeLaws.drain (b : BranchId) : KeepsNoticeLaws x (s.drain b) :=
  List.foldlRecOn _ _ (List.foldlRecOn _ _ h fun _ k j _ => k.drainFirst j) fun _ k j _ => k.drainSecond b j

theorem KeepsNoticeLaws.recoveryFails (b : BranchId) (cause : RecoveryCause) :
    KeepsNoticeLaws x (s.recoveryFails b cause) :=
  (((h.setBranch ..).drain b).answerBranchReset ..).offer nofun

theorem KeepsNoticeLaws.busBecomesFree (b : BranchId) : KeepsNoticeLaws x (s.busBecomesFree b) := by
  have free := h.setBranch b { s.branch b with busFree := true }
  unfold State.busBecomesFree
  simp only
  split
  · exact free.becomeIdle b
  · exact free.recoverySucceeds ..
  all_goals exact free

/-! ### Contention, the timers of a job, and polls -/

theorem KeepsNoticeLaws.lossBeforeAck (b : BranchId) (j : Job) : KeepsNoticeLaws x (s.lossBeforeAck b j) := by
  have counted : KeepsNoticeLaws x (s.countLoss b) := h.setBranch ..
  unfold State.lossBeforeAck
  simp only
  split
  · exact ((counted.updateJob ..).settleRouteOf j).setBranch ..
  · exact (counted.endOnWires ..).setBranch ..

theorem KeepsNoticeLaws.lossAfterAck (b : BranchId) (j : Job) : KeepsNoticeLaws x (s.lossAfterAck b j) := by
  have counted : KeepsNoticeLaws x (s.countLoss b) := h.setBranch ..
  exact (counted.endOnWires ..).setBranch ..

theorem KeepsNoticeLaws.deadlineExpires (j : Job) (atBoundary : Bool) :
    KeepsNoticeLaws x (s.deadlineExpires j atBoundary) := by
  unfold State.deadlineExpires
  split
  · exact (h.endJob ..).selectIfIdle _
  · exact (h.endJob ..).selectIfIdle _
  · exact h.makeEnding ..
  · exact h

theorem KeepsNoticeLaws.countdownExpires (w : WatchId) (c : WatchConfig) :
    KeepsNoticeLaws x (s.countdownExpires w c) := by
  unfold State.countdownExpires
  simp only
  split
  · exact (h.setWatch ..).setWatch ..
  · exact (((h.setWatch ..).setWatch ..).setRoute ..).acceptJob _

end

end Sys2Proof.Machine
end

section
/-! SUPPORT. The laws of the notice unit under the events on the branches and of the timers. -/

namespace Sys2Proof.Machine

/-- The answer is a next state, and each of the two laws that holds in `x` holds there too. -/
def AnswerKeepsNoticeLaws (x : State) (a : Answer) : Prop := ∃ t, a = .next t ∧ KeepsNoticeLaws x t

theorem KeepsNoticeLaws.next {x t : State} (h : KeepsNoticeLaws x t) : AnswerKeepsNoticeLaws x (.next t) :=
  ⟨t, rfl, h⟩

/-- An event that leaves the notice unit alone. -/
theorem AnswerKeepsNoticeLaws.quiet {s t : State} (unit : t.noticeUnit = s.noticeUnit) :
    AnswerKeepsNoticeLaws s (.next t) := ((KeepsNoticeLaws.refl s).same unit).next

/-- An event that acts under a condition, and otherwise changes nothing. -/
theorem AnswerKeepsNoticeLaws.ite {s t : State} {p : Prop} [Decidable p] (h : KeepsNoticeLaws s t) :
    AnswerKeepsNoticeLaws s (.next (if p then t else s)) := by
  split
  · exact h.next
  · exact .quiet rfl

section
variable (s : State) (b : BranchId)

/-! ### The phases of a transfer -/

theorem execStartPhaseDone_keepsNoticeLaws : AnswerKeepsNoticeLaws s (execStartPhaseDone b s) := by
  unfold execStartPhaseDone
  repeat' split
  all_goals exact .quiet rfl

theorem execRestartPhaseDone_keepsNoticeLaws : AnswerKeepsNoticeLaws s (execRestartPhaseDone b s) := by
  unfold execRestartPhaseDone
  repeat' split
  all_goals exact .quiet rfl

theorem execAddressPhaseDone_keepsNoticeLaws (acknowledged : Bool) :
    AnswerKeepsNoticeLaws s (execAddressPhaseDone b acknowledged s) := by
  unfold execAddressPhaseDone
  repeat' split
  all_goals exact .quiet rfl

theorem execWritingByteDone_keepsNoticeLaws (acknowledged : Bool) :
    AnswerKeepsNoticeLaws s (execWritingByteDone b acknowledged s) := by
  unfold execWritingByteDone
  repeat' split
  all_goals exact .quiet rfl

theorem execReadingByteDone_keepsNoticeLaws (received : Byte) :
    AnswerKeepsNoticeLaws s (execReadingByteDone b received s) := by
  unfold execReadingByteDone
  repeat' split
  all_goals exact .quiet rfl

/-! ### The ends of a transfer -/

theorem execStoppingDone_keepsNoticeLaws : AnswerKeepsNoticeLaws s (execStoppingDone b s) := by
  have stopped := (KeepsNoticeLaws.refl s).setBranch b (s.branch b).stopped
  unfold execStoppingDone
  split
  · exact .quiet rfl
  · split
    · simp only
      split
      · exact ((stopped.endOnWires ..).becomeIdle b).next
      · exact (((stopped.updateJob ..).settleRouteOf _).becomeIdle b).next
    all_goals exact .quiet rfl

theorem execStretchIntervalExpires_keepsNoticeLaws (seen : StretchEnd) :
    AnswerKeepsNoticeLaws s (execStretchIntervalExpires b seen s) := by
  have low := (KeepsNoticeLaws.refl s).setBranch b ((s.branch b).see ⟨false, seen.dataHigh⟩)
  unfold execStretchIntervalExpires
  split
  · exact .quiet rfl
  · split
    · exact .quiet rfl
    · split
      · exact ((low.endOnWires ..).enterRecovery ..).next
      · exact .quiet rfl

theorem execContradiction_keepsNoticeLaws (received : Byte) :
    AnswerKeepsNoticeLaws s (execContradiction b received s) := by
  have seen := (KeepsNoticeLaws.refl s).setBranch b ((s.branch b).see ⟨true, false⟩)
  unfold execContradiction
  split
  · exact .quiet rfl
  · split
    · refine KeepsNoticeLaws.next ?_
      split
      · split
        · exact seen.lossAfterAck ..
        · exact seen.lossBeforeAck ..
      · exact (seen.endOnWires ..).enterRecovery ..
    · exact .quiet rfl

/-! ### The line monitor and recovery -/

theorem execBranchLineLevelChange_keepsNoticeLaws (line : BusLine) (high : Bool) :
    AnswerKeepsNoticeLaws s (execBranchLineLevelChange b line high s) := by
  unfold execBranchLineLevelChange
  simp only
  split <;> exact .quiet rfl

theorem execStuckLineIntervalExpires_keepsNoticeLaws :
    AnswerKeepsNoticeLaws s (execStuckLineIntervalExpires b s) := by
  unfold execStuckLineIntervalExpires
  split
  · split
    · exact .quiet rfl
    · exact .ite ((KeepsNoticeLaws.refl s).enterRecovery ..)
  · exact .ite ((KeepsNoticeLaws.refl s).recoveryFails ..)
  all_goals exact .quiet rfl

theorem execRecoveryClockIntervalExpires_keepsNoticeLaws :
    AnswerKeepsNoticeLaws s (execRecoveryClockIntervalExpires b s) := by
  unfold execRecoveryClockIntervalExpires
  split
  · exact .quiet rfl
  · exact .ite (((KeepsNoticeLaws.refl s).setBranch b _).recoveryFails ..)

theorem execRecoveryPulseDone_keepsNoticeLaws (dataHigh : Bool) :
    AnswerKeepsNoticeLaws s (execRecoveryPulseDone b dataHigh s) := by
  unfold execRecoveryPulseDone
  split
  · exact .quiet rfl
  · split
    · simp only
      split
      · exact (((KeepsNoticeLaws.refl s).setBranch b _).recoveryFails ..).next
      · exact .quiet rfl
    · exact .quiet rfl

theorem execRecoveryStopDone_keepsNoticeLaws (dataHigh : Bool) :
    AnswerKeepsNoticeLaws s (execRecoveryStopDone b dataHigh s) := by
  unfold execRecoveryStopDone
  repeat' split
  all_goals exact .quiet rfl

/-! ### The timers, and the waiting late failure -/

theorem execJobDeadlineExpires_keepsNoticeLaws (slot : SlotId) (atBoundary : Bool) :
    AnswerKeepsNoticeLaws s (execJobDeadlineExpires slot atBoundary s) := by
  unfold execJobDeadlineExpires
  split
  · exact .quiet rfl
  · exact .ite ((KeepsNoticeLaws.refl s).deadlineExpires ..)

theorem execRetryWaitEnds_keepsNoticeLaws (slot : SlotId) : AnswerKeepsNoticeLaws s (execRetryWaitEnds slot s) := by
  unfold execRetryWaitEnds
  split
  · exact .quiet rfl
  · split
    · exact .ite (((KeepsNoticeLaws.refl s).updateJob ..).selectIfIdle _)
    all_goals exact .quiet rfl

theorem execWatchCountdownExpires_keepsNoticeLaws (w : WatchId) :
    AnswerKeepsNoticeLaws s (execWatchCountdownExpires w s) := by
  unfold execWatchCountdownExpires
  split
  · exact .quiet rfl
  · exact .ite ((KeepsNoticeLaws.refl s).countdownExpires ..)

theorem execWaitingLateFailureCarriedOut_keepsNoticeLaws (r : RouteId) :
    AnswerKeepsNoticeLaws s (execWaitingLateFailureCarriedOut r s) := by
  refine KeepsNoticeLaws.next ?_
  split
  · exact .refl s
  · exact ((KeepsNoticeLaws.refl s).settleWaiting r).selectForRoute r

end

end Sys2Proof.Machine
end

section
/-! SUPPORT. The laws of the notice unit under the requests, the close procedure, the transmitter and the restart
effects (R28 to R35, R47, R151, R152, R166 to R170). -/

namespace Sys2Proof.Machine

section
variable {x s : State} (h : KeepsNoticeLaws x s)
include h

/-! ### The requests about routes, watches and branches -/

theorem KeepsNoticeLaws.routeSet (f : Frame) (form : RouteId × RouteConfig) :
    KeepsNoticeLaws x (s.routeSet f form) := by
  unfold State.routeSet
  split
  · exact h.same rfl
  · exact (h.sealChanges fun w => (s.watch w).refersTo form.1).same rfl

theorem KeepsNoticeLaws.routeClear (f : Frame) (r : RouteId) : KeepsNoticeLaws x (s.routeClear f r) := by
  unfold State.routeClear
  split <;> exact h.same rfl

theorem KeepsNoticeLaws.holdRelease (f : Frame) (r : RouteId) : KeepsNoticeLaws x (s.holdRelease f r) := by
  unfold State.holdRelease
  split <;> exact h.same rfl

theorem KeepsNoticeLaws.presenceReset (f : Frame) (r : RouteId) : KeepsNoticeLaws x (s.presenceReset f r) := by
  unfold State.presenceReset
  split
  · exact (h.resetPresence r).answer ..
  · exact h.answer ..

theorem KeepsNoticeLaws.watchSet (f : Frame) (form : WatchId × WatchConfig) :
    KeepsNoticeLaws x (s.watchSet f form) := by
  unfold State.watchSet
  simp only
  split
  · exact h.answer ..
  · split
    · exact h.answer ..
    · exact ((h.setWatch ..).sealChanges _).answer ..

theorem KeepsNoticeLaws.watchClear (f : Frame) (w : WatchId) : KeepsNoticeLaws x (s.watchClear f w) := by
  unfold State.watchClear
  simp only
  split
  · exact h.answer ..
  · split
    · exact h.answer ..
    · exact ((h.setWatch ..).sealChanges _).answer ..

theorem KeepsNoticeLaws.branchSet (f : Frame) (form : BranchId × BranchConfig) :
    KeepsNoticeLaws x (s.branchSet f form) := by
  unfold State.branchSet
  simp only
  split <;> exact h.same rfl

theorem KeepsNoticeLaws.branchReset (f : Frame) (b : BranchId) : KeepsNoticeLaws x (s.branchReset f b) := by
  have pending : KeepsNoticeLaws x (s.setPendingReset b (some f.tag)) := h.same rfl
  unfold State.branchReset
  split
  · exact h.answer ..
  · exact pending.enterRecovery ..
  · exact pending.enterRecovery ..
  all_goals exact h.answer ..

/-! ### The transfer requests -/

theorem KeepsNoticeLaws.xfer (f : Frame) (y : XferForm) : KeepsNoticeLaws x (s.xfer f y) := by
  unfold State.xfer
  split
  · exact h.answer ..
  · exact h.answer ..
  · exact h.answer ..
  · split
    · exact (((h.setRoute ..).answer ..).setRoute ..).acceptJob _
    · exact (h.setRoute ..).acceptJob _

theorem KeepsNoticeLaws.broadcast (f : Frame) (y : BroadcastForm) : KeepsNoticeLaws x (s.broadcast f y) := by
  unfold State.broadcast
  split
  · exact h.answer ..
  · split
    · exact h.answer ..
    · exact h.acceptJob _

theorem KeepsNoticeLaws.cancel (atBoundary : Bool) (f : Frame) (target : Byte) :
    KeepsNoticeLaws x (s.cancel atBoundary f target) := by
  unfold State.cancel
  split
  · exact h.answer ..
  · split
    · exact ((h.endJob ..).answer ..).selectIfIdle _
    · exact ((h.endJob ..).answer ..).selectIfIdle _
    · exact (h.updateJob ..).makeEnding ..
    all_goals exact h.answer ..

/-! ### The session -/

/-- NEXT_SEQ starts at 1 and DROPPED at 0, with the credits of the request (R28). -/
theorem KeepsNoticeLaws.open_ {credits : Nat} (cap : credits ≤ 64) : KeepsNoticeLaws x (s.open_ credits) where
  attn _ := attnLaw_driveAttn _
  notices law := by
    obtain ⟨length, oneChange, -, -, -⟩ := h.notices law
    exact ⟨length, oneChange, cap, Nat.zero_le _, (by decide : 1 ≤ 1 ∧ 1 ≤ 65535)⟩

theorem KeepsNoticeLaws.closeRemoves (j : Job) : KeepsNoticeLaws x (closeRemoves s j) := by
  have removed := h.same (s.removeJob_noticeUnit j)
  unfold Machine.closeRemoves
  split
  · exact removed.same rfl
  · exact (h.deliver ..).same rfl
  · exact removed

theorem KeepsNoticeLaws.beginClose (boundary : List BranchId) : KeepsNoticeLaws x (s.beginClose boundary) := by
  have begun : KeepsNoticeLaws x s.closeBegun := by
    refine KeepsNoticeLaws.enterSession ?_ .closing
    exact h.same rfl
  rw [State.beginClose_eq]
  exact List.foldlRecOn _ _ (List.foldlRecOn _ _ begun fun _ k j _ => k.closeRemoves j) fun _ k _ _ => k.makeEnding ..

theorem KeepsNoticeLaws.completeClose : KeepsNoticeLaws x s.completeClose := by
  have emptied (routes : Vector Route 32) (watches : Vector Watch 16) :
      KeepsNoticeLaws x (State.emptyNotices { s with routes := routes, watches := watches }) := by
    refine KeepsNoticeLaws.emptyNotices ?_
    exact h.same rfl
  refine KeepsNoticeLaws.enterSession ?_ .closed
  split <;> split <;> exact (emptied _ _).same rfl

theorem KeepsNoticeLaws.testClose : KeepsNoticeLaws x s.testClose := by
  unfold State.testClose
  split
  · exact h.completeClose
  · exact h

theorem KeepsNoticeLaws.close (tag : Byte) (boundary : List BranchId) : KeepsNoticeLaws x (s.close tag boundary) := by
  have pending : KeepsNoticeLaws x (s.closePending tag) := h.same rfl
  exact (pending.beginClose boundary).testClose

theorem KeepsNoticeLaws.restartTaken (tag : Byte) (boundary : List BranchId) :
    KeepsNoticeLaws x (s.restartTaken tag boundary) := by
  have pending : KeepsNoticeLaws x (s.restartPending tag) := h.same rfl
  by_cases opened : s.session = .opened
  · rw [State.restartTaken_opened opened]
    exact (pending.beginClose boundary).testClose
  · rw [State.restartTaken_other opened]
    exact h.same rfl

/-! ### The transmitter and the restart effects -/

/-- The transmitter's choice touches the notice unit only where it starts a notice (R13, R167). -/
theorem KeepsNoticeLaws.choose : KeepsNoticeLaws x s.choose := by
  unfold State.choose
  split
  · exact h.same rfl
  · split
    · exact h.same rfl
    · split
      · exact h
      next head =>
        split
        · exact h.startNotice head
        · exact h

/-- The restart effects empty the queue and close the session, and no selection touches either (R170). -/
theorem KeepsNoticeLaws.applyRestart : KeepsNoticeLaws x s.applyRestart := by
  have restarted : KeepsNoticeLaws x s.restarted := by
    refine KeepsNoticeLaws.enterSession (KeepsNoticeLaws.emptyNotices ?_) .closed
    exact h.same rfl
  rw [State.applyRestart_eq]
  exact List.foldlRecOn _ _ restarted fun _ k b _ => k.selectIfIdle b

end

/-! ### The dispatcher -/

/-- A request that passes the general checks has the form of its kind (R23). -/
theorem State.check_formed {α : Type} {s : State} {k : Kind} {form : List Byte → Option α} {f : Frame} {a : α}
    (h : s.check k form f = .ok a) : form f.payload = some a := by
  unfold State.check at h
  split at h
  · cases h
  · split at h
    · cases h
    · split at h
      · cases h
      next formed =>
        split at h <;> cases h
        exact formed

/-- A request whose action, on a payload of its form, keeps the two laws. -/
theorem State.request_keepsNoticeLaws {α : Type} (s : State) (k : Kind) (form : List Byte → Option α)
    {act : State → Frame → α → State}
    (acts : ∀ {t} f a, form f.payload = some a → KeepsNoticeLaws s t → KeepsNoticeLaws s (act t f a)) :
    AnswerKeepsNoticeLaws s (.next (s.request k form act)) := by
  have taken (f : Frame) (rest : List Frame) : KeepsNoticeLaws s (s.taken f rest) := (KeepsNoticeLaws.refl s).same rfl
  rcases s.request_cases k form act with h | ⟨f, rest, -, -, -, ⟨st, -, h⟩ | ⟨a, checked, h⟩⟩ <;> rw [h]
  · exact .quiet rfl
  · exact .quiet rfl
  · exact KeepsNoticeLaws.next ((acts f a (State.check_formed checked) (taken f rest)).same rfl)

theorem State.take_noticeUnit {s t : State} {wanted : Byte → Bool} {f : Frame} (h : s.take wanted = some (f, t)) :
    t.noticeUnit = s.noticeUnit := by
  unfold State.take at h
  split at h
  · cases h
  · split at h <;> cases h
    rfl

theorem requestOfUnknownKind_keepsNoticeLaws (s : State) : AnswerKeepsNoticeLaws s (execRequestOfUnknownKind s) := by
  unfold execRequestOfUnknownKind
  split
  · exact .quiet rfl
  next f t take =>
    have taken : t.noticeUnit = s.noticeUnit := State.take_noticeUnit take
    exact .quiet taken

/-- The credits an OPEN asks for are at most 64 (R28). -/
theorem readOpen_le {payload : List Byte} {credits : Nat} (h : readOpen payload = some credits) : credits ≤ 64 := by
  unfold readOpen at h
  split at h
  · obtain ⟨⟨-, cap⟩, rfl⟩ := readNumber_eq.1 h
    exact cap
  · cases h

end Sys2Proof.Machine
end

section
/-! The statements about notices and credits, settled (R161, R162, R167 to R169). -/

namespace Sys2Proof.Machine

/-- Every command keeps the two laws of the notice unit. -/
theorem exec_keepsNoticeLaws (c : Instr) (s : State) : AnswerKeepsNoticeLaws s (exec c s) := by
  cases c with
  | fullReset cause lspd lines =>
    obtain ⟨attn, notices, -⟩ := lawsHoldAtReset
    exact KeepsNoticeLaws.next ⟨fun _ => attn.congr rfl, fun _ => notices.congr rfl⟩
  | byteArrives c => exact .quiet (State.noticeUnit_of_behind (s.receive_behind _))
  | gapIntervalExpires =>
    rw [exec_gapIntervalExpires, execGapIntervalExpires]
    split
    · exact .quiet rfl
    · exact .ite ((KeepsNoticeLaws.refl s).same rfl)
  | transmitStart =>
    rw [exec_transmitStart, execTransmitStart]
    split
    · exact (KeepsNoticeLaws.refl s).choose.next
    · exact .quiet rfl
  | frameTransmitted =>
    rw [exec_frameTransmitted, execFrameTransmitted]
    split <;> exact .quiet rfl
  | restartEffects =>
    rw [exec_restartEffects, execRestartEffects]
    split
    · exact (KeepsNoticeLaws.refl s).applyRestart.next
    · exact .quiet rfl
  | requestOfUnknownKind => exact requestOfUnknownKind_keepsNoticeLaws s
  | hello => exact s.request_keepsNoticeLaws .hello readEmpty fun _ _ _ k => k.answer ..
  | openSession =>
    exact s.request_keepsNoticeLaws .openSession readOpen fun _ _ formed k => (k.open_ (readOpen_le formed)).same rfl
  | closeSession boundary => exact s.request_keepsNoticeLaws .close readEmpty fun f _ _ k => k.close f.tag boundary
  | closeProcedureCompletes => exact .ite (KeepsNoticeLaws.refl s).testClose
  | restart boundary => exact s.request_keepsNoticeLaws .restart readEmpty fun f _ _ k => k.restartTaken f.tag boundary
  | status => exact s.request_keepsNoticeLaws .status readStatus fun _ _ _ k => k.same rfl
  | credit =>
    exact s.request_keepsNoticeLaws .credit readCredit fun _ _ _ k => (k.setCredits (Nat.min_le_right ..)).same rfl
  | routeSet => exact s.request_keepsNoticeLaws .routeSet readRouteSet fun f form _ k => k.routeSet f form
  | routeGet => exact s.request_keepsNoticeLaws .routeGet readRoute fun _ _ _ k => k.answer ..
  | routeClear => exact s.request_keepsNoticeLaws .routeClear readRoute fun f r _ k => k.routeClear f r
  | holdRelease => exact s.request_keepsNoticeLaws .holdRelease readRoute fun f r _ k => k.holdRelease f r
  | presenceReset => exact s.request_keepsNoticeLaws .presenceReset readRoute fun f r _ k => k.presenceReset f r
  | branchSet => exact s.request_keepsNoticeLaws .branchSet readBranchSet fun f form _ k => k.branchSet f form
  | branchGet => exact s.request_keepsNoticeLaws .branchGet readBranch fun _ _ _ k => k.answer ..
  | branchReset => exact s.request_keepsNoticeLaws .branchReset readBranch fun f b _ k => k.branchReset f b
  | xfer => exact s.request_keepsNoticeLaws .xfer readXfer fun f y _ k => k.xfer f y
  | broadcast => exact s.request_keepsNoticeLaws .broadcast readBroadcast fun f y _ k => k.broadcast f y
  | cancel atBoundary => exact s.request_keepsNoticeLaws .cancel readCancel fun f y _ k => k.cancel atBoundary f y
  | watchSet => exact s.request_keepsNoticeLaws .watchSet readWatchSet fun f form _ k => k.watchSet f form
  | watchGet => exact s.request_keepsNoticeLaws .watchGet readWatch fun _ _ _ k => k.answer ..
  | watchClear => exact s.request_keepsNoticeLaws .watchClear readWatch fun f w _ k => k.watchClear f w
  | jobDeadlineExpires slot atBoundary => exact execJobDeadlineExpires_keepsNoticeLaws s slot atBoundary
  | retryWaitEnds slot => exact execRetryWaitEnds_keepsNoticeLaws s slot
  | busFreeSet b => exact .ite ((KeepsNoticeLaws.refl s).busBecomesFree b)
  | stuckLineIntervalExpires b => exact execStuckLineIntervalExpires_keepsNoticeLaws s b
  | startPhaseDone b => exact execStartPhaseDone_keepsNoticeLaws s b
  | addressPhaseDone b acknowledged => exact execAddressPhaseDone_keepsNoticeLaws s b acknowledged
  | writingByteDone b acknowledged => exact execWritingByteDone_keepsNoticeLaws s b acknowledged
  | readingByteDone b received => exact execReadingByteDone_keepsNoticeLaws s b received
  | restartPhaseDone b => exact execRestartPhaseDone_keepsNoticeLaws s b
  | stoppingDone b => exact execStoppingDone_keepsNoticeLaws s b
  | stretchIntervalExpires b seen => exact execStretchIntervalExpires_keepsNoticeLaws s b seen
  | contradiction b received => exact execContradiction_keepsNoticeLaws s b received
  | recoveryClockIntervalExpires b => exact execRecoveryClockIntervalExpires_keepsNoticeLaws s b
  | recoveryPulseDone b dataHigh => exact execRecoveryPulseDone_keepsNoticeLaws s b dataHigh
  | recoveryStopDone b dataHigh => exact execRecoveryStopDone_keepsNoticeLaws s b dataHigh
  | watchCountdownExpires w => exact execWatchCountdownExpires_keepsNoticeLaws s w
  | waitingLateFailureCarriedOut r => exact execWaitingLateFailureCarriedOut_keepsNoticeLaws s r
  | branchLineLevelChange b line high => exact execBranchLineLevelChange_keepsNoticeLaws s b line high

/-- Every step keeps the two laws: a command by its meaning, and the passing of a ms by leaving the unit alone. -/
theorem step_keepsNoticeLaws {s t : State} (h : step s = .next t) : KeepsNoticeLaws s t := by
  unfold step at h
  split at h
  next =>
    cases h
    exact (KeepsNoticeLaws.refl s).same rfl
  next c rest _ =>
    obtain ⟨u, next, laws⟩ := exec_keepsNoticeLaws c { s with pending := rest }
    cases next.symm.trans h
    exact ⟨fun law => laws.attn (law.congr rfl), fun law => laws.notices (law.congr rfl)⟩

/-- Settles O53: whatever changes the session, the credits or the emptiness of the queue drives ATTN anew. -/
theorem everyStepKeepsAttn : Obligations.EveryStepKeepsAttn :=
  fun _ _ law h => (step_keepsNoticeLaws h).attn law

/-- Settles O54: a notice joins only a queue with room, and a CHANGE only one with none of its watch to merge into. -/
theorem everyStepKeepsTheNoticeLaw : Obligations.EveryStepKeepsTheNoticeLaw :=
  fun _ _ law h => (step_keepsNoticeLaws h).notices law

/-- Settles O19: the session and the form are checked first; an AMOUNT of at least 1 leaves a credit, which releases
ATTN. -/
theorem creditAddsUpTo64 : Obligations.CreditAddsUpTo64 := by
  intro f rest s asks
  have refused {st : Status} (h : (s.taken f rest).check .credit readCredit f = .error st) :
      exec .credit s = .next (s.afterReply rest ⟨0x86, f.tag, [st.code]⟩) := by
    refine congrArg Host.Outcome.next ((asks.ready.refused asks.kind readCredit _ h).trans ?_)
    rw [asks.kind]
    rfl
  refine ⟨fun amount opened payload least most => ?_, fun closed => ?_, fun opened bad => ?_⟩
  · have formed : readCredit f.payload = some amount.toNat := by
      rw [payload]
      exact readNumber_eq.2 ⟨⟨least, most⟩, rfl⟩
    have released : (s.session == .opened && !s.notices.isEmpty && min (s.credits + amount.toNat) 64 == 0) = false := by
      have credited : (min (s.credits + amount.toNat) 64 == 0) = false := by
        rw [beq_eq_false_iff_ne]
        omega
      rw [credited, Bool.and_false]
    refine congrArg Host.Outcome.next ((asks.act_open opened (by decide) rfl readCredit _ formed).trans ?_)
    have answered := asks.ready.answered [Status.code .ok, byte (min (s.credits + amount.toNat) 64)]
    rw [asks.kind] at answered
    rw [← released]
    exact congrArg (fun t : State => { t with
      credits := min (s.credits + amount.toNat) 64
      attnLow := s.session == Session.opened && !s.notices.isEmpty && min (s.credits + amount.toNat) 64 == 0 }) answered
  · refine refused (st := .noSession) (check_refusedSession asks.tag ?_)
    show sessionRefusal .credit s.session = _
    rw [closed]
    rfl
  · refine refused (check_badForm asks.tag ?_ (Kind.formed_none (k := .credit) (fun _ => rfl) ?_))
    · show sessionRefusal .credit s.session = none
      rw [opened]
      rfl
    · rintro ⟨amount, payload, least, most⟩
      rcases bad amount payload with rfl | above
      · cases least
      · omega

end Sys2Proof.Machine
end

section
/-! SUPPORT. The command queue under every command: no command touches it (log 22), FULL_RESET among them (log 27). -/

namespace Sys2Proof.Machine

/-- The answer is a next state with the command queue of `s`. -/
def KeepsQueue (s : State) (a : Answer) : Prop := ∃ t, a = .next t ∧ t.pending = s.pending

theorem KeepsQueue.next {s t : State} (h : t.pending = s.pending) : KeepsQueue s (.next t) := ⟨t, rfl, h⟩

/-! ### The commands other than the link's own -/

/-- The command queue is on the link's side, of which these commands change the receive queue and the counters alone. -/
theorem LinkChange.pending {s t : State} (h : LinkChange s t) : t.pending = s.pending := by
  cases h with
  | kept h | taken _ _ _ h | cleared _ _ _ h => exact (congrArg State.pending h :)

/-! ### The link's own commands -/

section
variable (s : State)

theorem State.receive_pending (b : Byte) : (s.receive b).pending = s.pending :=
  (congrArg State.pending (s.receive_behind b) :)

theorem State.choose_pending : s.choose.pending = s.pending := by
  unfold State.choose
  repeat' split
  all_goals rfl

theorem State.selectIfIdle_pending (b : BranchId) : (s.selectIfIdle b).pending = s.pending :=
  (congrArg State.pending (s.selectIfIdle_rest b) :)

/-- The restart effects write the queue in none of their fields, and no selection after them does. -/
theorem State.applyRestart_pending : s.applyRestart.pending = s.pending := by
  rw [State.applyRestart_eq]
  exact State.foldl_keeps State.pending _ State.selectIfIdle_pending _ s.restarted

theorem execGapIntervalExpires_keepsQueue : KeepsQueue s (execGapIntervalExpires s) := by
  unfold execGapIntervalExpires
  split
  · exact .next rfl
  · refine .next ?_
    split <;> rfl

theorem execTransmitStart_keepsQueue : KeepsQueue s (execTransmitStart s) := by
  unfold execTransmitStart
  split
  · exact .next s.choose_pending
  · exact .next rfl

theorem execFrameTransmitted_keepsQueue : KeepsQueue s (execFrameTransmitted s) := by
  unfold execFrameTransmitted
  split <;> exact .next rfl

theorem execRestartEffects_keepsQueue : KeepsQueue s (execRestartEffects s) := by
  unfold execRestartEffects
  split
  · exact .next s.applyRestart_pending
  · exact .next rfl

end

/-! ### Every command -/

/-- Every command answers a next state with its queue: the link's own by their arms, every other by what it can do on
the link's side. -/
theorem exec_keepsQueue (c : Instr) (s : State) : KeepsQueue s (exec c s) := by
  by_cases other : ofTheLink c = false
  · obtain ⟨t, next, change⟩ := exec_linkChange c s other
    exact ⟨t, next, change.pending⟩
  cases c with
  | fullReset cause lspd lines => exact .next rfl
  | byteArrives c => exact .next (s.receive_pending (delivered c))
  | gapIntervalExpires => exact execGapIntervalExpires_keepsQueue s
  | transmitStart => exact execTransmitStart_keepsQueue s
  | frameTransmitted => exact execFrameTransmitted_keepsQueue s
  | restartEffects => exact execRestartEffects_keepsQueue s
  | _ => exact absurd rfl other

end Sys2Proof.Machine
end

section
/-! The statements about a step and its command queue, settled. -/

namespace Sys2Proof.Machine

/-- Settles O3: the commands that are not the link's own act on the link's side within `LinkChange`, and each of the
link's own leaves the queue as it finds it. -/
theorem everyCommandAnswersAndKeepsTheQueue : Obligations.EveryCommandAnswersAndKeepsTheQueue := exec_keepsQueue

/-- Settles O1: it is the arm of `step` for a queue with a command at its front. -/
theorem stepRunsTheFrontCommand : Obligations.StepRunsTheFrontCommand := fun _ _ _ => rfl

end Sys2Proof.Machine
end
